-- ==== Sys2Proof/Word.lean ====
section
/-! DEFINITION. The word type of the datapath and the eight-word state array. -/

namespace Sys2Proof

/-- A datapath word: "an unsigned 64-bit word, an element of BitVec 64" (00_scope.md R10).
Bit 0 is the least-significant bit (R9). -/
abbrev Word := BitVec 64

/-- The contents of the state array: eight words, index 0 first (10_state.md R20, R21).
A short state cannot be represented (60_exceptions.md R231(a)). -/
abbrev WordArray := Vector Word 8

/-- The state array with every word 0, its value after reset (10_state.md R37). -/
abbrev zeroWords : WordArray := #v[0, 0, 0, 0, 0, 0, 0, 0]

/-- One command as the port carries it: 72 bits, `C[71:0] = {op, idx, data}` (30_encoding.md R70). -/
abbrev Command := BitVec 72

end Sys2Proof
end

