-- ==== Sys2Proof/Syntax.lean ====
section
/-! DEFINITION. The commands of the host command port, one constructor for each row of
spec/opcode_table.json (30_encoding.md R72). -/

namespace Sys2Proof

/-- A command. Class Z and class W commands carry the raw `idx` field: a reserved `idx` is accepted
by the port and raises BAD_INDEX (R73, R77), so it is part of the command's meaning. Class R commands
carry the round index, every value of which is legal. Only LDW and ROTW carry the `data` operand:
every other command ignores it (R74). -/
inductive Instr where
  /-- `NOP`, 43_host_transfer.md R190. -/
  | nop (idx : BitVec 4)
  /-- `LDW sW, imm64`, 43_host_transfer.md R191. -/
  | ldw (idx : BitVec 4) (data : Word)
  /-- `RDW sW`, 43_host_transfer.md R192. -/
  | rdw (idx : BitVec 4)
  /-- `PERM`, 42_round_driver.md R166 to R168. -/
  | perm (idx : BitVec 4)
  /-- `RND r`, 42_round_driver.md R165. -/
  | rnd (r : BitVec 4)
  /-- `CINJ r`, 41_round_layers.md R134. -/
  | cinj (r : BitVec 4)
  /-- `ARX r`, 41_round_layers.md R135. -/
  | arx (r : BitVec 4)
  /-- `MDS r`, 41_round_layers.md R136. -/
  | mds (r : BitVec 4)
  /-- `GMIX r`, 41_round_layers.md R137. -/
  | gmix (r : BitVec 4)
  /-- `ROTW sW, n`, 40_rotation.md R105; the whole 64-bit operand `n` is carried (R80). -/
  | rotw (idx : BitVec 4) (data : Word)
  /-- `RDRC r`, 43_host_transfer.md R193. -/
  | rdrc (r : BitVec 4)
  /-- `RDROT r`, 43_host_transfer.md R194. -/
  | rdrot (r : BitVec 4)
  /-- `RDSTAT`, 43_host_transfer.md R195. -/
  | rdstat (idx : BitVec 4)
  /-- `CLRERR`, 43_host_transfer.md R196. -/
  | clrerr (idx : BitVec 4)
  /-- The reserved opcode 0xE with any `idx`, 30_encoding.md R76. -/
  | reservedE (idx : BitVec 4)
  /-- The reserved opcode 0xF with any `idx`, 30_encoding.md R76. -/
  | reservedF (idx : BitVec 4)
deriving DecidableEq, Repr

namespace Instr

/-- The row's mnemonic in spec/opcode_table.json. -/
def mnemonic : Instr → String
  | nop _ => "NOP"
  | ldw _ _ => "LDW"
  | rdw _ => "RDW"
  | perm _ => "PERM"
  | rnd _ => "RND"
  | cinj _ => "CINJ"
  | arx _ => "ARX"
  | mds _ => "MDS"
  | gmix _ => "GMIX"
  | rotw _ _ => "ROTW"
  | rdrc _ => "RDRC"
  | rdrot _ => "RDROT"
  | rdstat _ => "RDSTAT"
  | clrerr _ => "CLRERR"
  | reservedE _ => "reserved_0xE"
  | reservedF _ => "reserved_0xF"

/-- The `idx` field `C[67:64]` of the command. -/
def idx : Instr → BitVec 4
  | nop i | ldw i _ | rdw i | perm i | rnd i | cinj i | arx i | mds i | gmix i | rotw i _
  | rdrc i | rdrot i | rdstat i | clrerr i | reservedE i | reservedF i => i

end Instr

end Sys2Proof
end

