-- ==== Sys2Proof/WellFormed.lean ====
section
/-! DEFINITION. The idx classes of 30_encoding.md R73 and the check that a command is legal. -/

namespace Sys2Proof

/-- The `idx` classes of 30_encoding.md R73; `reserved` stands for the two reserved opcodes, which no
`idx` makes legal (R76). -/
inductive IdxClass where
  | Z
  | W
  | R
  | reserved
deriving DecidableEq, Repr

/-- Which `idx` values a class allows (30_encoding.md R73). -/
def IdxClass.allows : IdxClass → BitVec 4 → Bool
  | .Z, idx => idx == 0#4
  | .W, idx => !idx[3]
  | .R, _ => true
  | .reserved, _ => false

namespace Instr

/-- The `idx` class column of 30_encoding.md R72. -/
def idxClass : Instr → IdxClass
  | nop _ | perm _ | rdstat _ | clrerr _ => .Z
  | ldw _ _ | rdw _ | rotw _ _ => .W
  | rnd _ | cinj _ | arx _ | mds _ | gmix _ | rdrc _ | rdrot _ => .R
  | reservedE _ | reservedF _ => .reserved

/-- A command is well-formed when its header is one of the 140 legal headers of 30_encoding.md R78:
its opcode is not reserved and its class allows its `idx`. -/
def wellFormed (i : Instr) : Bool :=
  i.idxClass.allows i.idx

end Instr

end Sys2Proof
end

