-- ==== Sys2Proof/Decode.lean ====
section
/-! DEFINITION. The command decoder and the encoder (30_encoding.md). -/

namespace Sys2Proof

/-! ## Fields of a command (R70) -/

/-- `op = C[71:68]`, the port `cmd_op`. -/
def Command.op (c : Command) : BitVec 4 := c.extractLsb' 68 4

/-- `idx = C[67:64]`, the port `cmd_idx`. -/
def Command.idx (c : Command) : BitVec 4 := c.extractLsb' 64 4

/-- `data = C[63:0]`, the port `cmd_data`. -/
def Command.data (c : Command) : Word := c.extractLsb' 0 64

/-- `C[71:0] = {op, idx, data}` (R70). -/
def mkCommand (op idx : BitVec 4) (data : Word) : Command := op ++ idx ++ data

/-- The command written `H:DATA` with `H = {op, idx}` (R70). -/
def rawCommand (header : BitVec 8) (data : Word) : Command := header ++ data

/-! ## Decoding -/

/-- The opcode map of R72, total on the four bits of `op`. -/
def decodeFields (op idx : BitVec 4) (data : Word) : Instr :=
  match op.toNat with
  | 0x0 => .nop idx
  | 0x1 => .ldw idx data
  | 0x2 => .rdw idx
  | 0x3 => .perm idx
  | 0x4 => .rnd idx
  | 0x5 => .cinj idx
  | 0x6 => .arx idx
  | 0x7 => .mds idx
  | 0x8 => .gmix idx
  | 0x9 => .rotw idx data
  | 0xA => .rdrc idx
  | 0xB => .rdrot idx
  | 0xC => .rdstat idx
  | 0xD => .clrerr idx
  | 0xE => .reservedE idx
  | _ => .reservedF idx   -- 0xF, the one value left of four bits

/-- The command that 72 bits on the port stand for. Every 72-bit value is some command: the port
accepts it whatever it is, and an illegal header raises its error when the command runs
(R78, R79). -/
def decode (c : Command) : Instr :=
  decodeFields c.op c.idx c.data

/-- Why a header is no legal command (60_exceptions.md R232). -/
inductive InterfaceError where
  | illegalOpcode
  | badIndex
deriving DecidableEq, Repr

/-- The `class(op)` of R79, read from the opcode map of R72. -/
def classOf (op : BitVec 4) : IdxClass :=
  match op.toNat with
  | 0x0 | 0x3 | 0xC | 0xD => .Z
  | 0x1 | 0x2 | 0x9 => .W
  | 0xE | 0xF => .reserved
  | _ => .R

/-- The checks of the decode procedure R79, in its order: the reserved opcodes first, then the `idx`
of class Z, then the `idx` of class W. -/
def rejectOf (c : Command) : Option InterfaceError :=
  if c.op = 0xE#4 ∨ c.op = 0xF#4 then some .illegalOpcode
  else if classOf c.op = .Z ∧ c.idx ≠ 0#4 then some .badIndex
  else if classOf c.op = .W ∧ c.idx[3] = true then some .badIndex
  else none

/-- The decoder that rejects an illegal header by name. -/
def decodeLegal (c : Command) : Except InterfaceError Instr :=
  match rejectOf c with
  | some e => .error e
  | none => .ok (decode c)

/-- The instruction of the row of spec/opcode_table.json that the word `w` matches. A word of more
than 72 bits is no command, and a header that matches no row (a reserved `idx`) has none. -/
def decodeTableWord (nbits w : Nat) : Option Instr :=
  let c : Command := BitVec.ofNat 72 (w % 2 ^ nbits)
  if 72 < nbits then none
  else if rejectOf c = some .badIndex then none
  else some (decode c)

/-! ## Encoding -/

namespace Instr

/-- The opcode of each command (R72). -/
def op : Instr → BitVec 4
  | nop _ => 0x0
  | ldw _ _ => 0x1
  | rdw _ => 0x2
  | perm _ => 0x3
  | rnd _ => 0x4
  | cinj _ => 0x5
  | arx _ => 0x6
  | mds _ => 0x7
  | gmix _ => 0x8
  | rotw _ _ => 0x9
  | rdrc _ => 0xA
  | rdrot _ => 0xB
  | rdstat _ => 0xC
  | clrerr _ => 0xD
  | reservedE _ => 0xE
  | reservedF _ => 0xF

/-- The `data` field: the operand of LDW and ROTW, and 0 for every other command, as the assembler
emits it (R80). -/
def data : Instr → Word
  | ldw _ d | rotw _ d => d
  | _ => 0

end Instr

/-- The 72 bits of a command (R70, R80). -/
def encode (i : Instr) : Command := mkCommand i.op i.idx i.data

/-! ## The opcode table -/

/-- A row of spec/opcode_table.json: its mnemonic, `match` and `mask`, both over `C[71:0]`. -/
structure OpRow where
  mnemonic : String
  pat : Command
  mask : Command
deriving DecidableEq, Repr

/-- The word `c` matches the row. -/
def OpRow.covers (row : OpRow) (c : Command) : Bool := c &&& row.mask == row.pat

/-- The rows of the class Z commands. -/
def opcodeTableZ : List OpRow := [
  ⟨"NOP", 0x000000000000000000, 0xFF0000000000000000⟩,
  ⟨"PERM", 0x300000000000000000, 0xFF0000000000000000⟩,
  ⟨"RDSTAT", 0xC00000000000000000, 0xFF0000000000000000⟩,
  ⟨"CLRERR", 0xD00000000000000000, 0xFF0000000000000000⟩]

/-- The rows of the class W commands. -/
def opcodeTableW : List OpRow := [
  ⟨"LDW", 0x100000000000000000, 0xF80000000000000000⟩,
  ⟨"RDW", 0x200000000000000000, 0xF80000000000000000⟩,
  ⟨"ROTW", 0x900000000000000000, 0xF80000000000000000⟩]

/-- The rows of the class R commands. -/
def opcodeTableR : List OpRow := [
  ⟨"RND", 0x400000000000000000, 0xF00000000000000000⟩,
  ⟨"CINJ", 0x500000000000000000, 0xF00000000000000000⟩,
  ⟨"ARX", 0x600000000000000000, 0xF00000000000000000⟩,
  ⟨"MDS", 0x700000000000000000, 0xF00000000000000000⟩,
  ⟨"GMIX", 0x800000000000000000, 0xF00000000000000000⟩,
  ⟨"RDRC", 0xA00000000000000000, 0xF00000000000000000⟩,
  ⟨"RDROT", 0xB00000000000000000, 0xF00000000000000000⟩]

/-- The rows of the two reserved opcodes. -/
def opcodeTableReserved : List OpRow := [
  ⟨"reserved_0xE", 0xE00000000000000000, 0xF00000000000000000⟩,
  ⟨"reserved_0xF", 0xF00000000000000000, 0xF00000000000000000⟩]

/-- spec/opcode_table.json, its rows grouped by `idx` class. -/
def opcodeTable : List OpRow :=
  opcodeTableZ ++ opcodeTableW ++ opcodeTableR ++ opcodeTableReserved

end Sys2Proof
end

