-- ==== Sys2Proof/Config.lean ====
section
/-! DEFINITION. What a build of the core fixes (00_scope.md R6 to R8), and the free values. -/

namespace Sys2Proof

/-- `MDS_FORM`: which reading of the intra-word diffusion sentence the build uses
(00_scope.md R8, 41_round_layers.md R128). -/
inductive MdsForm where
  | parallel
  | chained
deriving DecidableEq, Repr

/-- `NROUNDS`: a number from 1 to 16 and nothing else, so that a build outside the range cannot be
written down (00_scope.md R6, 60_exceptions.md R231(b)). -/
structure RoundCount where
  val : Nat
  one_le : 1 ≤ val
  le_sixteen : val ≤ 16
deriving DecidableEq, Repr

/-- Elaborating a build with round count `n`: refused (`none`) when `n` is 0 or above 16
(00_scope.md R6; 90_conflicts.md C3; 93_implementation_defined.md U4). -/
def RoundCount.elaborate (n : Nat) : Option RoundCount :=
  if h : 1 ≤ n ∧ n ≤ 16 then some ⟨n, h.1, h.2⟩ else none

/-- The build parameters of one core: the round count, the round-constant ROM, the four
rotation-schedule ROMs and the diffusion form (00_scope.md R6 to R8, 10_state.md R29 to R31).
Every ROM has 16 entries, one for each round index. -/
structure Config where
  nrounds : RoundCount
  rc : Vector Word 16
  rot1 : Vector (Fin 64) 16
  rot2 : Vector (Fin 64) 16
  rot3 : Vector (Fin 64) 16
  rot4 : Vector (Fin 64) 16
  mdsForm : MdsForm
deriving DecidableEq, Repr

namespace Config

/-- The reference round constants. OPEN: no source gives a value (00_scope.md R7,
91_not_in_source.md N1), so nothing can be proved of one. -/
opaque referenceRC : Fin 16 → Word

/-- The reference rotation schedules `ROT1` to `ROT4`. OPEN, as the round constants are
(00_scope.md R7, 91_not_in_source.md N2). -/
opaque referenceROT1 : Fin 16 → Fin 64
/-- See `referenceROT1`. -/
opaque referenceROT2 : Fin 16 → Fin 64
/-- See `referenceROT1`. -/
opaque referenceROT3 : Fin 16 → Fin 64
/-- See `referenceROT1`. -/
opaque referenceROT4 : Fin 16 → Fin 64

/-- The reference configuration: round count 4, 16-entry tables of open content, and the default
`MDS_FORM` (00_scope.md R2, R6 to R8). It is the build of `State.reset`; statements over every
state hold for every build (assumption log entry 1). -/
def reference : Config where
  nrounds := ⟨4, by decide, by decide⟩
  rc := Vector.ofFn referenceRC
  rot1 := Vector.ofFn referenceROT1
  rot2 := Vector.ofFn referenceROT2
  rot3 := Vector.ofFn referenceROT3
  rot4 := Vector.ofFn referenceROT4
  mdsForm := .parallel

/-- FREE VALUE. What `rsp_data` holds after an edge that sets `rsp_valid` to 0: "its value is
unspecified: a model treats it as any value" (10_state.md R33, 93_implementation_defined.md S2).
Applied to the counter `State.freeIdx`; nothing can be proved of it (assumption log entry 4). -/
opaque freeRspData : Nat → Word

end Config

end Sys2Proof
end

