-- ==== Sys2Proof/Machine/State.lean ====
section
/-! DEFINITION. The state of the core, the inputs of an edge, the reasons a step can stop, and the
state after reset (10_state.md). -/

namespace Sys2Proof.Machine

/-- The input ports as one rising edge of `clk` samples them (20_memory.md R51). Every port holds a
defined 0 or 1 (92_eei_decisions.md D27). -/
structure EdgeInput where
  /-- `rst`, the synchronous active-high reset. -/
  rst : Bool
  /-- `cmd_valid`: the host offers a command. -/
  cmdValid : Bool
  /-- `cmd_op`. -/
  cmdOp : BitVec 4
  /-- `cmd_idx`. -/
  cmdIdx : BitVec 4
  /-- `cmd_data`. -/
  cmdData : Word
deriving DecidableEq, Repr

/-- The state record of 10_state.md R38, with the build's parameters beside it and three fields of
the model's own: the host's inputs for the coming edges, the response trace of 20_memory.md R54 and
R67, and the counter of the free values. `STATUS`, `cmd_ready` and `done` are functions of the record
(R28, R38) and have no field. -/
structure State where
  /-- `S[0]` to `S[7]`, 64 bits each (R20). -/
  S : WordArray
  /-- `BUSY`: 1 exactly while a PERM is in progress (R24). -/
  busy : Bool
  /-- `DONE`: the last state-changing command was a PERM and it has completed (R25). -/
  done : Bool
  /-- `ERR`: the sticky interface-error flag (R26). -/
  err : Bool
  /-- `ECAUSE`: the cause code of the first error since `ERR` was last cleared (R27). -/
  ecause : BitVec 4
  /-- `RCNT`: the 5-bit round counter (R23). -/
  rcnt : BitVec 5
  /-- `rsp_valid` (R33). -/
  rspValid : Bool
  /-- `rsp_data` (R33). -/
  rspData : Word
  /-- `NROUNDS`, the ROMs `RC`, `ROT1` to `ROT4`, and `MDS_FORM`: fixed when the hardware is built,
  and written by nothing (R29 to R31, 70_reset_and_hazards.md R274; assumption log entry 1). -/
  build : Config
  /-- The model's own: what the host drives on the input ports at the coming edges, the next edge
  first. The host chooses it freely (20_memory.md R52; assumption log entry 2). -/
  inputs : List EdgeInput
  /-- The model's own: the host-visible response trace, the oldest response first (20_memory.md R54,
  R67; assumption log entry 3). -/
  responses : List Word
  /-- The model's own: the number of free values taken so far (assumption log entry 4). -/
  freeIdx : Nat
deriving DecidableEq, Repr

/-- The faults of the core: there are none, so the type is empty. "No item of the core is `stuck`"
(93_implementation_defined.md section 2): the datapath raises no exception (60_exceptions.md R230) and an
interface error is recorded in `ERR` and `ECAUSE`, after which the core goes on (R236, R237). Safe:
nothing raises a fault. -/
inductive Fault where
deriving DecidableEq, Repr

/-- Why the model gives a command no meaning. -/
inductive Refusal where
  /-- Raised by an arm of `exec` whose command has no meaning yet; no arm raises it now. Safe: the
  model stops where the hardware goes on. -/
  | notModelled (mnemonic : String)
deriving DecidableEq, Repr

/-- The state a reset leaves in a core built with `cfg` (10_state.md R37), before the host drives
anything: the run begins here (70_reset_and_hazards.md R273). -/
def State.resetOf (cfg : Config) : State where
  S := zeroWords
  busy := false
  done := false
  err := false
  ecause := 0
  rcnt := 0
  rspValid := false
  rspData := 0
  build := cfg
  inputs := []
  responses := []
  freeIdx := 0

/-- The machine right after reset, in the reference configuration (00_scope.md R2). -/
def State.reset : State := State.resetOf Config.reference

end Sys2Proof.Machine
end

