-- ==== Sys2Proof/Machine/Flags.lean ====
section
/-! DEFINITION. The flags, the cause codes, the status register and the ports that show them. -/

namespace Sys2Proof.Machine

/-- The code of an error cause (60_exceptions.md R232). -/
def causeCode : InterfaceError → BitVec 4
  | .illegalOpcode => 1
  | .badIndex => 2

/-- `STATUS = zext_64({NROUNDS[4:0], 3'b000, RCNT[4:0], ECAUSE[3:0], 1'b0, ERR, DONE, BUSY})`
(10_state.md R28); the `status` port drives it at all times (20_memory.md R55). -/
def State.status (s : State) : Word :=
  (BitVec.ofNat 5 s.build.nrounds.val ++ 0#3 ++ s.rcnt ++ s.ecause ++ 0#1 ++
    BitVec.ofBool s.err ++ BitVec.ofBool s.done ++ BitVec.ofBool s.busy).setWidth 64

/-- `cmd_ready = not BUSY` (20_memory.md R53). -/
def State.cmdReady (s : State) : Bool := !s.busy

/-- The `done` port, equal to `STATUS.DONE` (60_exceptions.md R239). -/
def State.donePort (s : State) : Bool := s.done

/-- `DONE <- 0`: what every legal state-changing command does (10_state.md R25). -/
def State.clearDone (s : State) : State := { s with done := false }

end Sys2Proof.Machine
end

