-- ==== Sys2Proof/Machine/Ops.lean ====
section
/-! DEFINITION. The shared operations over the state array, the response register and the error
registers, and the edges that run no command. -/

namespace Sys2Proof.Machine

/-! ## The state array -/

/-- Reading `S[w]` (00_scope.md R11). -/
def State.word (s : State) (w : Fin 8) : Word := s.S[w]

/-- `S[w] <- v` (00_scope.md R11). -/
def State.setWord (s : State) (w : Fin 8) (v : Word) : State := { s with S := s.S.set w v }

/-- `S <- v`, all eight words at the end of the edge (00_scope.md R13). -/
def State.setWords (s : State) (v : WordArray) : State := { s with S := v }

/-! ## The response register -/

/-- `rsp_valid <- 0`. `rsp_data` is then any value (10_state.md R33): the next free value. -/
def State.noResponse (s : State) : State :=
  { s with
    rspValid := false
    rspData := Config.freeRspData s.freeIdx
    freeIdx := s.freeIdx + 1 }

/-- `respond(v)`: `rsp_valid <- 1` and `rsp_data <- v` (00_scope.md R11), and the value joins the
host-visible response trace (20_memory.md R54). -/
def State.respond (s : State) (v : Word) : State :=
  { s with
    rspValid := true
    rspData := v
    responses := s.responses ++ [v] }

/-- What every legal state-changing command that completes in its edge does beside its effect on `S`:
`DONE <- 0` and `rsp_valid <- 0` (10_state.md R25, R33). -/
def State.changed (s : State) : State := s.clearDone.noResponse

/-! ## Taking an interface error, and clearing it -/

/-- `raise E` (60_exceptions.md R233): the first cause is kept, `ERR` is set, there is no response, and
nothing else changes (R234). The core has no trap entry: control is not redirected (R236). -/
def raiseError (e : InterfaceError) (s : State) : State :=
  { s.noResponse with
    err := true
    ecause := if s.err then s.ecause else causeCode e }

/-- `ERR <- 0`, `ECAUSE <- 0` (43_host_transfer.md R196): with reset, the only way back from an error
(60_exceptions.md R237). -/
def clearError (s : State) : State := { s.noResponse with err := false, ecause := 0 }

/-! ## Edges that run no command -/

/-- An edge with `rst` = 1 (70_reset_and_hazards.md R270): every register takes its reset value
(10_state.md R37), whatever else is happening. The build does not change (R274), and the model's own
fields keep the run's history. -/
def resetEdge (s : State) : State :=
  { s with
    S := zeroWords
    busy := false
    done := false
    err := false
    ecause := 0
    rcnt := 0
    rspValid := false
    rspData := 0 }

/-- An idle edge: `rsp_valid <- 0` and nothing else changes (20_memory.md R52). -/
def idleEdge (s : State) : State := s.noResponse

/-! ## The input ports -/

/-- The ports at an edge where the host drives nothing: no reset and no command. -/
def EdgeInput.idle : EdgeInput := ⟨false, false, 0, 0, 0⟩

/-- The ports at an edge where the host offers the command `c`. -/
def EdgeInput.offer (c : Command) : EdgeInput := ⟨false, true, c.op, c.idx, c.data⟩

/-- The command on the ports, `C[71:0] = {cmd_op, cmd_idx, cmd_data}` (30_encoding.md R70). -/
def EdgeInput.command (e : EdgeInput) : Command := mkCommand e.cmdOp e.cmdIdx e.cmdData

/-- The input ports at the next edge. A host that has nothing more to say drives nothing. -/
def State.nextInput (s : State) : EdgeInput := s.inputs.headD EdgeInput.idle

/-- The state with the next edge's inputs taken off the host's list. -/
def State.sampled (s : State) : State := { s with inputs := s.inputs.tail }

end Sys2Proof.Machine
end

