-- ==== Sys2Proof/Machine/Operands.lean ====
section
/-! DEFINITION. The operands of a command: the idx classes of 30_encoding.md R73 and the rotation
amount of R75. -/

namespace Sys2Proof.Machine

/-- `w = idx[2:0]`, a word index from 0 to 7 (R73). -/
def wordIndex (idx : BitVec 4) : Fin 8 := ⟨idx.toNat % 8, Nat.mod_lt _ (by decide)⟩

/-- `r = idx[3:0]`, a round index from 0 to 15 (R73). -/
def roundIndex (r : BitVec 4) : Fin 16 := ⟨r.toNat, r.isLt⟩

/-- `n = data mod 64`, the rotation amount of ROTW (R75). -/
def rotAmount (data : Word) : Nat := data.toNat % 64

/-- A class Z command: any `idx` but 0000 raises BAD_INDEX, and the command then has no effect
(R73, R77). -/
def classZ (idx : BitVec 4) (s : State) (effect : State) : State :=
  if idx = 0#4 then effect else raiseError .badIndex s

/-- A class W command: `idx[3]` = 1 raises BAD_INDEX, and the command then has no effect
(R73, R77). -/
def classW (idx : BitVec 4) (s : State) (effect : Fin 8 → State) : State :=
  if idx[3] then raiseError .badIndex s else effect (wordIndex idx)

end Sys2Proof.Machine
end

