-- ==== Sys2Proof/Machine/Rotation.lean ====
section
/-! DEFINITION. The barrel shifter and ROTW (40_rotation.md). -/

namespace Sys2Proof.Machine

/-- `rotl64(x, n)`: rotate left by `n mod 64` (R100, R101). -/
def rotl64 (x : Word) (n : Nat) : Word := x.rotateLeft (n % 64)

/-- ROTW: rotate one state word left (R105). -/
def execRotw (idx : BitVec 4) (data : Word) (s : State) : Host.Outcome State Fault Refusal :=
  .next (classW idx s fun w => (s.setWord w (rotl64 (s.word w) (rotAmount data))).changed)

end Sys2Proof.Machine
end

