-- ==== Sys2Proof/Machine/Layers.lean ====
section
/-! DEFINITION. The four round layers as pure functions, and the commands that apply one layer
(41_round_layers.md). -/

namespace Sys2Proof.Machine

/-- The state word of index `i mod 8`. -/
def wordAt (S : WordArray) (i : Nat) : Word := S[i % 8]'(Nat.mod_lt _ (by decide))

/-- The state with `v` in the word of index `i mod 8`. -/
def setWordAt (S : WordArray) (i : Nat) (v : Word) : WordArray :=
  S.set (i % 8) v (Nat.mod_lt _ (by decide))

/-! ## Constant injection -/

/-- `cinj(S, r)`: `RC[r]` is XORed into the word `(3 r) mod 8` (R120). -/
def cinj (cfg : Config) (S : WordArray) (r : Fin 16) : WordArray :=
  setWordAt S (3 * r.val) (wordAt S (3 * r.val) ^^^ cfg.rc[r])

/-! ## Nonlinear ARX layer -/

/-- The pair transform: four operations in sequence, each reading what the one before wrote (R125). -/
def arxPair (x y : Word) (r1 r2 r3 r4 : Nat) : Word × Word :=
  let x := x + rotl64 y r1
  let y := y ^^^ rotl64 x r2
  let x := x + rotl64 y r3
  let y := y ^^^ rotl64 x r4
  (x, y)

/-- The first word `a = (2 i + r) mod 8` of the pair of sub-step `i` (R122). -/
def pairA (r : Fin 16) (i : Nat) : Nat := (2 * i + r.val) % 8

/-- The second word `b = (a + 1) mod 8` of the pair of sub-step `i` (R122). -/
def pairB (r : Fin 16) (i : Nat) : Nat := (pairA r i + 1) % 8

/-- One sub-step: the pair transform on pair `i`, with the amounts `rk = ROTk[r]` (R124, R126). -/
def arxSubStep (cfg : Config) (r : Fin 16) (S : WordArray) (i : Nat) : WordArray :=
  let p := arxPair (wordAt S (pairA r i)) (wordAt S (pairB r i))
    cfg.rot1[r].val cfg.rot2[r].val cfg.rot3[r].val cfg.rot4[r].val
  setWordAt (setWordAt S (pairA r i) p.1) (pairB r i) p.2

/-- `arx(S, r)`: the four sub-steps (R126). -/
def arx (cfg : Config) (S : WordArray) (r : Fin 16) : WordArray :=
  [0, 1, 2, 3].foldl (arxSubStep cfg r) S

/-! ## Intra-word diffusion -/

/-- `m1 = (3 r + 7) mod 64` (R127). -/
def mdsAmount1 (r : Fin 16) : Nat := (3 * r.val + 7) % 64

/-- `m2 = (5 r + 23) mod 64` (R127). -/
def mdsAmount2 (r : Fin 16) : Nat := (5 * r.val + 23) % 64

/-- `m3 = (7 r + 41) mod 64` (R127). -/
def mdsAmount3 (r : Fin 16) : Nat := (7 * r.val + 41) % 64

/-- `mds_word(w, r)` in the build's form (R128): three rotated copies of the word's entry value, or of
the running value. -/
def mdsWord (form : MdsForm) (w : Word) (r : Fin 16) : Word :=
  match form with
  | .parallel =>
    w ^^^ rotl64 w (mdsAmount1 r) ^^^ rotl64 w (mdsAmount2 r) ^^^ rotl64 w (mdsAmount3 r)
  | .chained =>
    let w := w ^^^ rotl64 w (mdsAmount1 r)
    let w := w ^^^ rotl64 w (mdsAmount2 r)
    w ^^^ rotl64 w (mdsAmount3 r)

/-- `mds(S, r)`: the word function on each word by itself (R129). -/
def mds (cfg : Config) (S : WordArray) (r : Fin 16) : WordArray :=
  Vector.ofFn fun i : Fin 8 => mdsWord cfg.mdsForm S[i] r

/-! ## Global mixing -/

/-- `o1 = (2 r + 1) mod 8` (R131). -/
def mixOffset1 (r : Fin 16) : Nat := (2 * r.val + 1) % 8

/-- `o2 = (3 r + 3) mod 8` (R131). -/
def mixOffset2 (r : Fin 16) : Nat := (3 * r.val + 3) % 8

/-- `gmix(S, r)`: every output word comes from the snapshot `S` (R132). -/
def gmix (S : WordArray) (r : Fin 16) : WordArray :=
  Vector.ofFn fun i : Fin 8 =>
    S[i] ^^^ wordAt S (i.val + mixOffset1 r) ^^^ wordAt S (i.val + mixOffset2 r)

/-! ## The layer commands -/

/-- CINJ: the constant-injection layer of round `r` (R134). -/
def execCinj (r : BitVec 4) (s : State) : Host.Outcome State Fault Refusal :=
  .next (s.setWords (cinj s.build s.S (roundIndex r))).changed

/-- ARX: the nonlinear layer of round `r` (R135). -/
def execArx (r : BitVec 4) (s : State) : Host.Outcome State Fault Refusal :=
  .next (s.setWords (arx s.build s.S (roundIndex r))).changed

/-- MDS: the intra-word diffusion layer of round `r` (R136). -/
def execMds (r : BitVec 4) (s : State) : Host.Outcome State Fault Refusal :=
  .next (s.setWords (mds s.build s.S (roundIndex r))).changed

/-- GMIX: the global mixing layer of round `r` (R137). -/
def execGmix (r : BitVec 4) (s : State) : Host.Outcome State Fault Refusal :=
  .next (s.setWords (gmix s.S (roundIndex r))).changed

end Sys2Proof.Machine
end

