-- ==== Sys2Proof/Machine/Reserved.lean ====
section
/-! DEFINITION. The reserved opcodes: accepting one raises ILLEGAL_OPCODE, whatever `idx` and `data`
hold, and the command has no other effect (30_encoding.md R76). -/

namespace Sys2Proof.Machine

/-- The reserved opcode 0xE (R76; 60_exceptions.md R232). -/
def execReservedE (_idx : BitVec 4) (s : State) : Host.Outcome State Fault Refusal :=
  .next (raiseError .illegalOpcode s)

/-- The reserved opcode 0xF (R76; 60_exceptions.md R232). -/
def execReservedF (_idx : BitVec 4) (s : State) : Host.Outcome State Fault Refusal :=
  .next (raiseError .illegalOpcode s)

end Sys2Proof.Machine
end

