-- ==== Sys2Proof/Machine/RoundDriver.lean ====
section
/-! DEFINITION. The round function, the permutation, RND, PERM and the sequencer's round step
(42_round_driver.md). -/

namespace Sys2Proof.Machine

/-- `round(S, r)`: the four layers in strict sequence (R160). -/
def round (cfg : Config) (S : WordArray) (r : Fin 16) : WordArray :=
  gmix (mds cfg (arx cfg (cinj cfg S r) r) r) r

/-- The round index of round number `k`. Round numbers are below 16 in every run; above that the low
four bits address the ROMs (assumption log entry 6). -/
def roundNumber (k : Nat) : Fin 16 := ⟨k % 16, Nat.mod_lt _ (by decide)⟩

/-- `S_k`: the first `k` rounds, round 0 first (R161). -/
def applyRounds (cfg : Config) : Nat → WordArray → WordArray
  | 0, S => S
  | k + 1, S => round cfg (applyRounds cfg k S) (roundNumber k)

/-- The permutation `p0` of a build: rounds 0 to `NROUNDS`-1 (R161). -/
def p0 (cfg : Config) (S : WordArray) : WordArray := applyRounds cfg cfg.nrounds.val S

/-- RND: one full round in one edge (R165). -/
def execRnd (r : BitVec 4) (s : State) : Host.Outcome State Fault Refusal :=
  .next (s.setWords (round s.build s.S (roundIndex r))).changed

/-- What accepting a PERM does: `BUSY <- 1`, `RCNT <- 0`, `DONE <- 0`, `rsp_valid <- 0`, and `S` is not
changed at this edge (R166). -/
def startPerm (s : State) : State := { s.changed with busy := true, rcnt := 0 }

/-- PERM: acceptance (R166). The round steps follow at the next edges. -/
def execPerm (idx : BitVec 4) (s : State) : Host.Outcome State Fault Refusal :=
  .next (classZ idx s (startPerm s))

/-- `RCNT + 1 = NROUNDS`: the round step about to run is the PERM's last (R167). -/
def State.lastRound (s : State) : Bool := (s.rcnt + 1).toNat == s.build.nrounds.val

/-- `perm_round_step()`, what the core does at an edge with `rst` = 0 and `BUSY` = 1 (R167):
one round with index `RCNT`, read before the edge. -/
def permRoundStep (s : State) : State :=
  { s.noResponse with
    S := round s.build s.S (roundNumber s.rcnt.toNat)
    rcnt := s.rcnt + 1
    busy := if s.lastRound then false else s.busy
    done := if s.lastRound then true else s.done }

end Sys2Proof.Machine
end

