-- ==== Sys2Proof/Machine/Transfer.lean ====
section
/-! DEFINITION. The host transfer and control commands (43_host_transfer.md). -/

namespace Sys2Proof.Machine

/-- NOP: `rsp_valid <- 0` and nothing else (R190). -/
def execNop (idx : BitVec 4) (s : State) : Host.Outcome State Fault Refusal :=
  .next (classZ idx s s.noResponse)

/-- LDW: load one state word (R191). -/
def execLdw (idx : BitVec 4) (data : Word) (s : State) : Host.Outcome State Fault Refusal :=
  .next (classW idx s fun w => (s.setWord w data).changed)

/-- RDW: respond one state word (R192). -/
def execRdw (idx : BitVec 4) (s : State) : Host.Outcome State Fault Refusal :=
  .next (classW idx s fun w => s.respond (s.word w))

/-- RDRC: respond a round constant (R193). -/
def execRdrc (r : BitVec 4) (s : State) : Host.Outcome State Fault Refusal :=
  .next (s.respond s.build.rc[roundIndex r])

/-- `zext_64({ROT4[r], ROT3[r], ROT2[r], ROT1[r]})`, six bits each (R194). -/
def packRot (cfg : Config) (r : Fin 16) : Word :=
  (BitVec.ofNat 6 cfg.rot4[r].val ++ BitVec.ofNat 6 cfg.rot3[r].val ++
    BitVec.ofNat 6 cfg.rot2[r].val ++ BitVec.ofNat 6 cfg.rot1[r].val).setWidth 64

/-- RDROT: respond the four rotation amounts of a round (R194). -/
def execRdrot (r : BitVec 4) (s : State) : Host.Outcome State Fault Refusal :=
  .next (s.respond (packRot s.build (roundIndex r)))

/-- RDSTAT: respond `STATUS` as it was before this edge (R195). -/
def execRdstat (idx : BitVec 4) (s : State) : Host.Outcome State Fault Refusal :=
  .next (classZ idx s (s.respond s.status))

/-- CLRERR: clear the error flag and its cause (R196). -/
def execClrerr (idx : BitVec 4) (s : State) : Host.Outcome State Fault Refusal :=
  .next (classZ idx s (clearError s))

end Sys2Proof.Machine
end

