-- ==== Sys2Proof/Machine/Dispatch.lean ====
section
/-! DEFINITION. One arm for each command (30_encoding.md R72). -/

namespace Sys2Proof.Machine

/-- What an accepted command does: `perform the rule of op` (30_encoding.md R79). -/
def exec (i : Instr) (s : State) : Host.Outcome State Fault Refusal :=
  match i with
  | .nop idx => Sys2Proof.Machine.execNop idx s
  | .ldw idx data => Sys2Proof.Machine.execLdw idx data s
  | .rdw idx => Sys2Proof.Machine.execRdw idx s
  | .perm idx => Sys2Proof.Machine.execPerm idx s
  | .rnd r => Sys2Proof.Machine.execRnd r s
  | .cinj r => Sys2Proof.Machine.execCinj r s
  | .arx r => Sys2Proof.Machine.execArx r s
  | .mds r => Sys2Proof.Machine.execMds r s
  | .gmix r => Sys2Proof.Machine.execGmix r s
  | .rotw idx data => Sys2Proof.Machine.execRotw idx data s
  | .rdrc r => Sys2Proof.Machine.execRdrc r s
  | .rdrot r => Sys2Proof.Machine.execRdrot r s
  | .rdstat idx => Sys2Proof.Machine.execRdstat idx s
  | .clrerr idx => Sys2Proof.Machine.execClrerr idx s
  | .reservedE idx => Sys2Proof.Machine.execReservedE idx s
  | .reservedF idx => Sys2Proof.Machine.execReservedF idx s

end Sys2Proof.Machine
end

