-- ==== Sys2Proof/Machine/Edge.lean ====
section
/-! DEFINITION. One rising edge of `clk` (20_memory.md R52). -/

namespace Sys2Proof.Machine

/-- What the core does at an edge that samples the inputs `e`: a reset, a round step of the PERM in
progress, the acceptance of a command, or nothing, tested in this order (20_memory.md R52,
60_exceptions.md R235). An accepted command is decoded and runs in the same edge. -/
def edge (e : EdgeInput) (s : State) : Host.Outcome State Fault Refusal :=
  if e.rst then .next (resetEdge s)
  else if s.busy then .next (permRoundStep s)
  else if e.cmdValid then exec (decode e.command) s
  else .next (idleEdge s)

/-- Placing the command `c` on the input ports of the very next edge, with `rst` = 0, and the core
ready to accept it. In a state with `BUSY` = 0 only the host's list of inputs changes. -/
def State.offerNext (s : State) (c : Command) : State :=
  { s with
    busy := false
    inputs := EdgeInput.offer c :: s.inputs }

end Sys2Proof.Machine
end

