-- ==== Sys2Proof/Machine/Step.lean ====
section
/-! DEFINITION. One step of the machine is one rising edge of `clk`. -/

namespace Sys2Proof.Machine

/-- One rising edge: the inputs the host drives at it are sampled, and the core acts on them. -/
def step (s : State) : Host.Outcome State Fault Refusal := edge s.nextInput s.sampled

/-- The state with the command of bits `w` on the input ports of the very next edge. The core fetches
nothing (20_memory.md R50, R64): a program is what the host drives, so this stands for the host's next
offer (assumption log entry 5). -/
def State.withFetchWord (s : State) (nbits w : Nat) : State :=
  s.offerNext (BitVec.ofNat 72 (w % 2 ^ nbits))

end Sys2Proof.Machine
end

