-- ==== Sys2Proof/Machine/Assembler.lean ====
section
/-! DEFINITION. The assembler: one line of text to the commands it stands for, with the pseudo-commands
(30_encoding.md R80, R81). It is notation over the command port and no part of the core. -/

namespace Sys2Proof.Machine

/-- A line of assembler (R80, R81). -/
inductive AsmLine where
  /-- A command written with its mnemonic. -/
  | command (i : Instr)
  /-- `.raw H:DATA`: the 72 bits unchanged. -/
  | raw (header : BitVec 8) (data : Word)
  /-- `LOADSTATE v0, ..., v7`. -/
  | loadState (v : WordArray)
  /-- `READSTATE`. -/
  | readState
  /-- `CLEARSTATE`. -/
  | clearState
  /-- `ROTR sW, n`. -/
  | rotr (w : Fin 8) (n : Word)
  /-- `P0 v0, ..., v7`. -/
  | p0 (v : WordArray)
deriving DecidableEq, Repr

/-- The `idx` field of the word operand `sW`: `0www` (R80). -/
def wordIdx (w : Fin 8) : BitVec 4 := BitVec.ofNat 4 w.val

/-- `LDW s0, v0` through `LDW s7, v7`, in that order (R81). -/
def loadStateCommands (v : WordArray) : List Instr :=
  (List.finRange 8).map fun w => .ldw (wordIdx w) v[w]

/-- `RDW s0` through `RDW s7`, word 0 first (R81). -/
def readStateCommands : List Instr :=
  (List.finRange 8).map fun w => .rdw (wordIdx w)

/-- The commands a line stands for, in order (R80, R81). -/
def AsmLine.instrs : AsmLine → List Instr
  | .command i => [i]
  | .raw h d => [decode (rawCommand h d)]
  | .loadState v => loadStateCommands v
  | .readState => readStateCommands
  | .clearState => loadStateCommands zeroWords
  | .rotr w n => [.rotw (wordIdx w) (BitVec.ofNat 64 ((64 - rotAmount n) % 64))]
  | .p0 v => loadStateCommands v ++ [.perm 0] ++ readStateCommands

/-- The 72-bit commands a line emits: `.raw` emits its bits unchanged (R80). -/
def AsmLine.commands : AsmLine → List Command
  | .raw h d => [rawCommand h d]
  | line => line.instrs.map encode

/-! ## Reading a line of text -/

/-- The value of a digit in base 16, capitals only: the line is read in capitals (R80,
"case-insensitive"). -/
def digitValue (c : Char) : Option Nat :=
  if '0' ≤ c ∧ c ≤ '9' then some (c.toNat - '0'.toNat)
  else if 'A' ≤ c ∧ c ≤ 'F' then some (c.toNat - 'A'.toNat + 10)
  else none

/-- The number a non-empty list of digits stands for in the base. -/
def digitsValue (base : Nat) (cs : List Char) : Option Nat :=
  if cs.isEmpty then none
  else cs.foldl (init := some 0) fun acc c =>
    match acc, digitValue c with
    | some n, some d => if d < base then some (n * base + d) else none
    | _, _ => none

/-- A number below `limit`, in decimal or with a `0x` prefix (R80). -/
def parseNumber (limit : Nat) (cs : List Char) : Option Nat :=
  let value := match cs with
    | '0' :: 'X' :: ds => digitsValue 16 ds
    | ds => digitsValue 10 ds
  value.filter (· < limit)

/-- The data operand: 0 to 2^64-1 (R80). -/
def parseData (cs : List Char) : Option Word :=
  (parseNumber (2 ^ 64) cs).map (BitVec.ofNat 64)

/-- A word operand, `s0` to `s7` (R80). -/
def parseWordOperand : List Char → Option (Fin 8)
  | ['S', c] => (digitValue c).bind fun n => if h : n < 8 then some ⟨n, h⟩ else none
  | _ => none

/-- A round operand, decimal 0 to 15 (R80). -/
def parseRound (cs : List Char) : Option (BitVec 4) :=
  ((digitsValue 10 cs).filter (· < 16)).map (BitVec.ofNat 4)

/-- The eight data operands of LOADSTATE and P0 (R81). -/
def parseState : List (List Char) → Option WordArray
  | [a, b, c, d, e, f, g, h] => do
    return #v[← parseData a, ← parseData b, ← parseData c, ← parseData d,
      ← parseData e, ← parseData f, ← parseData g, ← parseData h]
  | _ => none

/-- The operand of `.raw`: two hex digits, a colon, and 16 hex digits, or `-` for any data, which the
assembler emits as 0 (R70, R80). -/
def parseRaw : List Char → Option AsmLine
  | h1 :: h0 :: ':' :: ds => do
    let h ← digitsValue 16 [h1, h0]
    let d ← if ds = ['-'] then some 0 else if ds.length = 16 then digitsValue 16 ds else none
    return .raw (BitVec.ofNat 8 h) (BitVec.ofNat 64 d)
  | _ => none

/-- A mnemonic in capitals with its operands (R80, R81). -/
def parseMnemonic : List Char → List (List Char) → Option AsmLine
  | ['N', 'O', 'P'], [] => some (.command (.nop 0))
  | ['L', 'D', 'W'], [w, v] => do
    return .command (.ldw (wordIdx (← parseWordOperand w)) (← parseData v))
  | ['R', 'D', 'W'], [w] => do return .command (.rdw (wordIdx (← parseWordOperand w)))
  | ['P', 'E', 'R', 'M'], [] => some (.command (.perm 0))
  | ['R', 'N', 'D'], [r] => do return .command (.rnd (← parseRound r))
  | ['C', 'I', 'N', 'J'], [r] => do return .command (.cinj (← parseRound r))
  | ['A', 'R', 'X'], [r] => do return .command (.arx (← parseRound r))
  | ['M', 'D', 'S'], [r] => do return .command (.mds (← parseRound r))
  | ['G', 'M', 'I', 'X'], [r] => do return .command (.gmix (← parseRound r))
  | ['R', 'O', 'T', 'W'], [w, n] => do
    return .command (.rotw (wordIdx (← parseWordOperand w)) (← parseData n))
  | ['R', 'D', 'R', 'C'], [r] => do return .command (.rdrc (← parseRound r))
  | ['R', 'D', 'R', 'O', 'T'], [r] => do return .command (.rdrot (← parseRound r))
  | ['R', 'D', 'S', 'T', 'A', 'T'], [] => some (.command (.rdstat 0))
  | ['C', 'L', 'R', 'E', 'R', 'R'], [] => some (.command (.clrerr 0))
  | ['.', 'R', 'A', 'W'], [hd] => parseRaw hd
  | ['L', 'O', 'A', 'D', 'S', 'T', 'A', 'T', 'E'], vs => (parseState vs).map .loadState
  | ['R', 'E', 'A', 'D', 'S', 'T', 'A', 'T', 'E'], [] => some .readState
  | ['C', 'L', 'E', 'A', 'R', 'S', 'T', 'A', 'T', 'E'], [] => some .clearState
  | ['R', 'O', 'T', 'R'], [w, n] => do
    return .rotr (← parseWordOperand w) (← parseData n)
  | ['P', '0'], vs => (parseState vs).map .p0
  | _, _ => none

/-- White space within a line. -/
def isBlank (c : Char) : Bool := c == ' ' || c == '\t'

/-- The text with white space cut at both ends. -/
def trimBlanks (cs : List Char) : List Char :=
  ((cs.dropWhile isBlank).reverse.dropWhile isBlank).reverse

/-- The operands of a line: separated by commas, none where nothing is written. -/
def splitOperands (cs : List Char) : List (List Char) :=
  if trimBlanks cs = [] then [] else (cs.splitOnP (· == ',')).map trimBlanks

/-- One line of assembler text (R80): the answer is `none` where the line is no line of the assembler,
and `some none` where it is blank or only a comment, which starts with `;`. -/
def parseLine (text : List Char) : Option (Option AsmLine) :=
  let line := trimBlanks ((text.takeWhile (· != ';')).map Char.toUpper)
  if line = [] then some none
  else
    (parseMnemonic (line.takeWhile (!isBlank ·)) (splitOperands (line.dropWhile (!isBlank ·)))).map
      some

end Sys2Proof.Machine
end

