-- ==== Sys2Proof/Machine/Run.lean ====
section
/-! DEFINITION. A run of the core and what the host observes of it (20_memory.md R67). -/

namespace Sys2Proof.Machine

/-- `k` edges, one after the other, stopping at a fault or a refusal. -/
def run : Nat → State → Host.Outcome State Fault Refusal
  | 0, s => .next s
  | k + 1, s =>
    match step s with
    | .next t => run k t
    | .fault r => .fault r
    | .refused r => .refused r

/-- The architectural state record of 10_state.md R38. -/
structure Record where
  S : WordArray
  busy : Bool
  done : Bool
  err : Bool
  ecause : BitVec 4
  rcnt : BitVec 5
  rspValid : Bool
  rspData : Word
deriving DecidableEq, Repr

/-- The record of a state. `rspData` means nothing while `rspValid` is false (10_state.md R33). -/
def State.record (s : State) : Record :=
  ⟨s.S, s.busy, s.done, s.err, s.ecause, s.rcnt, s.rspValid, s.rspData⟩

/-- The observation of a run: the response trace, in acceptance order, and the record after the last
edge (R67). -/
structure Observation where
  responses : List Word
  final : Record
deriving DecidableEq, Repr

/-- What a finite sequence of edges amounts to as a run. -/
inductive RunResult where
  /-- The sequence does not begin with a reset edge, so the model refuses it
  (70_reset_and_hazards.md R273). -/
  | refused
  /-- The last edge left `BUSY` = 1: the run has not ended, and nothing about it is final (R67). -/
  | notEnded
  /-- The run has ended, and this is its observation. -/
  | ended (o : Observation)
deriving DecidableEq, Repr

/-- A state seen as the end of a run. -/
def State.result (s : State) : RunResult :=
  if s.busy then .notEnded else .ended ⟨s.responses, s.record⟩

/-- The outcome of the last step of a run, as a result: a run that a step refuses is refused. -/
def resultOf : Host.Outcome State Fault Refusal → RunResult
  | .next s => s.result
  | .fault _ => .refused
  | .refused _ => .refused

/-- The run of a core built with `cfg` over the inputs of a finite sequence of edges (R67). The reset
edge that begins it leaves `State.resetOf cfg`, whatever the registers held before. -/
def runEdges (cfg : Config) : List EdgeInput → RunResult
  | [] => .refused
  | first :: rest =>
    if first.rst then
      resultOf (run rest.length { State.resetOf cfg with inputs := rest })
    else .refused

end Sys2Proof.Machine
end

