-- ==== Sys2Proof/Safety.lean ====
section
/-! DEFINITION. What counts as a safe run, and the invariant of every reachable state. -/

namespace Sys2Proof.Machine

/-- A step is safe when it answers a next state: neither a fault nor a refusal. -/
def StepSafe (s : State) : Prop := ∃ t : State, step s = .next t

/-- A run of `k` edges is safe when every one of its steps is. -/
def RunSafe (k : Nat) (s : State) : Prop := ∃ t : State, run k s = .next t

/-- What holds of every state a run reaches (10_state.md R23 to R27, R33). -/
structure State.Inv (s : State) : Prop where
  /-- `0 <= RCNT <= NROUNDS` (R23). -/
  rcnt_le : s.rcnt.toNat ≤ s.build.nrounds.val
  /-- While `BUSY` = 1, `RCNT` is the index of a round still to run (R167). -/
  busy_rcnt : s.busy = true → s.rcnt.toNat < s.build.nrounds.val
  /-- In IDLE, `RCNT` holds 0 or, after a completed PERM, `NROUNDS` (R23). -/
  idle_rcnt : s.busy = false → s.rcnt.toNat = 0 ∨ s.rcnt.toNat = s.build.nrounds.val
  /-- `DONE` = 1 only after the PERM has completed (R25). -/
  done_idle : s.done = true → s.busy = false ∧ s.rcnt.toNat = s.build.nrounds.val
  /-- With no error recorded the cause is NONE (R27). -/
  cause_none : s.err = false → s.ecause = 0
  /-- A recorded error has one of the two causes; the reserved codes are never written (R27). -/
  cause_some : s.err = true → s.ecause = 1 ∨ s.ecause = 2
  /-- A response is shown only in IDLE (R33). -/
  rsp_idle : s.rspValid = true → s.busy = false
  /-- The response shown is the newest of the trace (20_memory.md R54). -/
  rsp_trace : s.rspValid = true → s.responses.getLast? = some s.rspData

end Sys2Proof.Machine
end

