-- ==== Sys2Proof/Certificates/Slice0/Obligations.lean ====
section
/-! DEFINITION. The statements for the provers, each a formalisation of a rule of the spec. -/

/-! ## Words the statements share -/

namespace Sys2Proof.Machine.Claims

/-- No command wrote the build or took a host input. -/
def KeepsSurroundings (s t : State) : Prop := t.build = s.build ∧ t.inputs = s.inputs

/-- `BUSY`, `ERR`, `ECAUSE` and `RCNT` are unchanged. -/
def KeepsControl (s t : State) : Prop :=
  t.busy = s.busy ∧ t.err = s.err ∧ t.ecause = s.ecause ∧ t.rcnt = s.rcnt

/-- `rsp_valid` is 0 and the response trace has not grown. -/
def NoResponse (s t : State) : Prop := t.rspValid = false ∧ t.responses = s.responses

/-- The response `v` is shown, and it has joined the trace. -/
def Responds (s t : State) (v : Word) : Prop :=
  t.rspValid = true ∧ t.rspData = v ∧ t.responses = s.responses ++ [v]

/-- Everything but the state array after a legal state-changing command: `DONE` is cleared, there is no
response, and nothing else changed. -/
def OnlyWordsChanged (s t : State) : Prop :=
  t.done = false ∧ KeepsControl s t ∧ KeepsSurroundings s t ∧ NoResponse s t

/-- The whole effect of a legal read command that answers `v`. -/
def OnlyResponds (s t : State) (v : Word) : Prop :=
  t.S = s.S ∧ t.done = s.done ∧ KeepsControl s t ∧ KeepsSurroundings s t ∧ Responds s t v

/-- The whole effect of a command that raises the error of code `code`: the first cause is kept, `ERR`
is set, and nothing else changed (60_exceptions.md R233, R234). -/
def OnlyRaises (code : BitVec 4) (s t : State) : Prop :=
  t.err = true ∧ t.ecause = (if s.err = true then s.ecause else code) ∧
    t.S = s.S ∧ t.done = s.done ∧ t.busy = s.busy ∧ t.rcnt = s.rcnt ∧
    KeepsSurroundings s t ∧ NoResponse s t

/-- Every register at its reset value (10_state.md R37). -/
def AtReset (t : State) : Prop :=
  (∀ w : Fin 8, t.word w = 0) ∧ t.busy = false ∧ t.done = false ∧ t.err = false ∧
    t.ecause = 0 ∧ t.rcnt = 0 ∧ t.rspValid = false ∧ t.rspData = 0

/-- The two states agree in everything the spec gives a value: in every field, and in `rsp_data` while a
response is shown. At other times `rsp_data` may differ (10_state.md R33), and so may the counter that
names its free value. -/
def SameButUnspecified (s t : State) : Prop :=
  t.S = s.S ∧ t.done = s.done ∧ KeepsControl s t ∧ KeepsSurroundings s t ∧
    t.rspValid = s.rspValid ∧ (s.rspValid = true → t.rspData = s.rspData) ∧
    t.responses = s.responses

/-- The two states differ at most in data: in the state array, in `rsp_data`, and in the values of the
response trace, whose length is the same. Every flag, counter, port and input agrees. -/
def DifferOnlyInData (s t : State) : Prop :=
  t.done = s.done ∧ KeepsControl s t ∧ KeepsSurroundings s t ∧ t.rspValid = s.rspValid ∧
    t.responses.length = s.responses.length ∧ t.freeIdx = s.freeIdx

/-- The edge with inputs `e` accepts a command: `rst` = 0, `BUSY` = 0 and `cmd_valid` = 1. -/
def Accepts (e : EdgeInput) (s : State) : Prop :=
  e.rst = false ∧ s.busy = false ∧ e.cmdValid = true

/-- The state-changing commands (10_state.md R25). -/
def changesState : Instr → Bool
  | .ldw _ _ | .rotw _ _ | .cinj _ | .arx _ | .mds _ | .gmix _ | .rnd _ | .perm _ => true
  | .nop _ | .rdw _ | .rdrc _ | .rdrot _ | .rdstat _ | .clrerr _ | .reservedE _
  | .reservedF _ => false

/-- The read commands (10_state.md R33). -/
def reads : Instr → Bool
  | .rdw _ | .rdrc _ | .rdrot _ | .rdstat _ => true
  | .nop _ | .ldw _ _ | .rotw _ _ | .cinj _ | .arx _ | .mds _ | .gmix _ | .rnd _ | .perm _
  | .clrerr _ | .reservedE _ | .reservedF _ => false

/-- The state with the commands offered at its next edges, one at each edge. -/
def offering (s : State) (is : List Instr) : State :=
  { s with inputs := is.map fun i => EdgeInput.offer (encode i) }

end Sys2Proof.Machine.Claims

open Sys2Proof Sys2Proof.Machine Sys2Proof.Machine.Claims

/-! ## Encoding -/

/-- Decoding the word of a command gives the command back, for every command and every operand. -/
def Obligations.DecodeOfEncodeIsIdentity : Prop :=
  ∀ i : Instr, decode (encode i) = i

/-- A word and the canonical word of the command it decodes to agree on the header always, and on the
data wherever a command uses it: all 64 bits for LDW and for ROTW's operand. -/
def Obligations.EncodeOfDecodeKeepsUsedBits : Prop :=
  ∀ c : Command,
    (encode (decode c)).extractLsb' 64 8 = c.extractLsb' 64 8 ∧
      decode (encode (decode c)) = decode c ∧
      (c.op = 0x1#4 ∨ c.op = 0x9#4 → encode (decode c) = c)

/-- The data operand (30_encoding.md R74): LDW writes all 64 bits, ROTW uses `data mod 64` only, and every
other command ignores all of `data`. -/
def Obligations.UnusedDataBitsAreIgnored : Prop :=
  ∀ (op idx : BitVec 4) (d d' : Word) (s : State),
    (∀ w : Fin 8, w.val = idx.toNat →
        ∃ t, exec (decode (mkCommand 0x1 idx d)) s = .next t ∧ t.word w = d) ∧
      (op ≠ 0x1#4 → op ≠ 0x9#4 → decode (mkCommand op idx d) = decode (mkCommand op idx d')) ∧
      (d.extractLsb' 0 6 = d'.extractLsb' 0 6 →
        ∃ t t', exec (decode (mkCommand 0x9 idx d)) s = .next t ∧
          exec (decode (mkCommand 0x9 idx d')) s = .next t' ∧ SameButUnspecified t t')

/-- A word that matches a row of the opcode table decodes to that row's command. -/
def Obligations.OpcodeTableRowsDecode : Prop :=
  ∀ row ∈ opcodeTable, ∀ c : Command, row.covers c = true → (decode c).mnemonic = row.mnemonic

/-- Every word matches at most one row, and it matches one exactly when its header raises no
BAD_INDEX. -/
def Obligations.OpcodeTableRowsPartitionWords : Prop :=
  ∀ c : Command,
    (opcodeTable.filter fun row => row.covers c).length =
      if rejectOf c = some .badIndex then 0 else 1

/-- Of the 256 headers 140 are legal: 4 of class Z, 24 of class W, 112 of class R. The other 116
raise an error (30_encoding.md R78). -/
def Obligations.LegalHeaderCounts : Prop :=
  let headers := (List.range 256).map fun h => rawCommand (BitVec.ofNat 8 h) 0
  let legal (cls : IdxClass) := headers.filter fun c =>
    rejectOf c == none && classOf c.op == cls
  (legal .Z).length = 4 ∧ (legal .W).length = 24 ∧ (legal .R).length = 112 ∧
    (headers.filter fun c => rejectOf c == none).length = 140 ∧
    (headers.filter fun c => rejectOf c != none).length = 116

/-- Words written out from the opcode table and 95_test_vectors.md decode to their commands. -/
def Obligations.WrittenOutWordsDecode : Prop :=
  decode 0x000000000000000000 = .nop 0 ∧
    decode 0x130123456789ABCDEF = .ldw 3 0x0123456789ABCDEF ∧
    decode 0x270000000000000000 = .rdw 7 ∧
    decode 0x300000000000000000 = .perm 0 ∧
    decode 0x4F0000000000000000 = .rnd 15 ∧
    decode 0x510000000000000000 = .cinj 1 ∧
    decode 0x90000000000000000D = .rotw 0 13 ∧
    decode 0xA70000000000000000 = .rdrc 7 ∧
    decode 0xB30000000000000000 = .rdrot 3 ∧
    decode 0xD00000000000000000 = .clrerr 0 ∧
    decode 0xE50000000000001234 = .reservedE 5

/-- The decode procedure (30_encoding.md R79): a reserved opcode raises ILLEGAL_OPCODE whatever `idx`
is, a class Z command with `idx` not 0 and a class W command with `idx[3]` = 1 raise BAD_INDEX, and
any other command runs without raising an error. -/
def Obligations.DecodeProcedureRaisesOrRuns : Prop :=
  ∀ (op idx : BitVec 4) (data : Word) (s : State),
    ∃ t, exec (decode (mkCommand op idx data)) s = .next t ∧
      if op = 0xE#4 ∨ op = 0xF#4 then OnlyRaises 1 s t
      else if op ∈ [0x0#4, 0x3#4, 0xC#4, 0xD#4] ∧ idx ≠ 0#4 then OnlyRaises 2 s t
      else if op ∈ [0x1#4, 0x2#4, 0x9#4] ∧ idx[3] = true then OnlyRaises 2 s t
      else (decode (mkCommand op idx data)).wellFormed = true ∧
        t.err = (if op = 0xD#4 then false else s.err) ∧
        t.ecause = (if op = 0xD#4 then 0#4 else s.ecause)

/-! ## Host transfer and control commands -/

/-- NOP (43_host_transfer.md R190), which has the effect of an idle edge: the two leave the same state, but
for the value `rsp_data` holds while no response is shown. -/
def Obligations.NopOnlyEndsTheResponse : Prop :=
  ∀ (s : State) (idx : BitVec 4) (data : Word) (es : List EdgeInput),
    decode (mkCommand 0x0 idx data) = .nop idx ∧
      (idx = 0 → ∃ t, exec (.nop idx) s = .next t ∧
        t.S = s.S ∧ t.done = s.done ∧ KeepsControl s t ∧ KeepsSurroundings s t ∧
          NoResponse s t) ∧
      (idx ≠ 0 → ∃ t, exec (.nop idx) s = .next t ∧ OnlyRaises 2 s t) ∧
      (∀ e : EdgeInput, e.rst = false → e.cmdValid = false →
        ∃ t u,
          step { s with inputs := EdgeInput.offer (mkCommand 0x0 0 data) :: es } = .next t ∧
          step { s with inputs := e :: es } = .next u ∧ SameButUnspecified t u)

/-- LDW (43_host_transfer.md R191): the named word takes the data, every other word keeps its value. -/
def Obligations.LdwLoadsTheNamedWord : Prop :=
  ∀ (s : State) (idx : BitVec 4) (data : Word),
    decode (mkCommand 0x1 idx data) = .ldw idx data ∧
      (idx[3] = false → ∃ t, exec (.ldw idx data) s = .next t ∧
        (∀ w : Fin 8, t.word w = if w.val = idx.toNat then data else s.word w) ∧
          OnlyWordsChanged s t) ∧
      (idx[3] = true → ∃ t, exec (.ldw idx data) s = .next t ∧ OnlyRaises 2 s t)

/-- RDW (43_host_transfer.md R192): the response is the named word, as the last LDW left it; while a PERM
runs the command is not accepted and there is no response. -/
def Obligations.RdwRespondsTheNamedWord : Prop :=
  ∀ (s : State) (idx : BitVec 4) (data : Word),
    decode (mkCommand 0x2 idx data) = .rdw idx ∧
      (∀ w : Fin 8, w.val = idx.toNat → ∃ t, exec (.rdw idx) s = .next t ∧
        OnlyResponds s t (s.word w)) ∧
      (idx[3] = true → ∃ t, exec (.rdw idx) s = .next t ∧ OnlyRaises 2 s t) ∧
      (∀ v : Word, idx[3] = false → ∃ t u, exec (.ldw idx v) s = .next t ∧
        exec (.rdw idx) t = .next u ∧ u.rspValid = true ∧ u.rspData = v) ∧
      (∀ es : List EdgeInput, s.busy = true → ∃ t,
        step { s with inputs := EdgeInput.offer (mkCommand 0x2 idx data) :: es } = .next t ∧
          NoResponse s t)

/-- RDRC (43_host_transfer.md R193): the response is the round constant of any of the 16 rounds. -/
def Obligations.RdrcRespondsTheRoundConstant : Prop :=
  ∀ (s : State) (r : BitVec 4) (data : Word),
    decode (mkCommand 0xA r data) = .rdrc r ∧
      ∃ t, exec (.rdrc r) s = .next t ∧ OnlyResponds s t s.build.rc[r.toNat]

/-- RDROT (43_host_transfer.md R194): the four amounts of the round in bits 5:0, 11:6, 17:12 and
23:18, and 0 above. -/
def Obligations.RdrotPacksFourAmounts : Prop :=
  ∀ (s : State) (r : BitVec 4) (data : Word),
    decode (mkCommand 0xB r data) = .rdrot r ∧
      ∃ t v, exec (.rdrot r) s = .next t ∧ OnlyResponds s t v ∧
        (v.extractLsb' 0 6).toNat = s.build.rot1[r.toNat].val ∧
        (v.extractLsb' 6 6).toNat = s.build.rot2[r.toNat].val ∧
        (v.extractLsb' 12 6).toNat = s.build.rot3[r.toNat].val ∧
        (v.extractLsb' 18 6).toNat = s.build.rot4[r.toNat].val ∧
        v.extractLsb' 24 40 = 0

/-- RDSTAT (43_host_transfer.md R195): the response is `STATUS` as it was before the edge, and no response
to an offered RDSTAT shows `BUSY` = 1. -/
def Obligations.RdstatRespondsTheOldStatus : Prop :=
  ∀ (s : State) (idx : BitVec 4) (data : Word),
    decode (mkCommand 0xC idx data) = .rdstat idx ∧
      (idx = 0 → ∃ t, exec (.rdstat idx) s = .next t ∧ OnlyResponds s t s.status) ∧
      (idx ≠ 0 → ∃ t, exec (.rdstat idx) s = .next t ∧ OnlyRaises 2 s t) ∧
      (∀ es : List EdgeInput, ∃ t,
        step { s with inputs := EdgeInput.offer (mkCommand 0xC idx data) :: es } = .next t ∧
          (t.rspValid = true → t.rspData.getLsbD 0 = false))

/-- CLRERR (43_host_transfer.md R196): `ERR` and `ECAUSE` are cleared and nothing else changes; with a
reserved `idx` the clear does not happen. -/
def Obligations.ClrerrClearsTheError : Prop :=
  ∀ (s : State) (idx : BitVec 4) (data : Word),
    decode (mkCommand 0xD idx data) = .clrerr idx ∧
      (idx = 0 → ∃ t, exec (.clrerr idx) s = .next t ∧
        t.err = false ∧ t.ecause = 0 ∧ t.S = s.S ∧ t.done = s.done ∧ t.busy = s.busy ∧
          t.rcnt = s.rcnt ∧ KeepsSurroundings s t ∧ NoResponse s t) ∧
      (idx ≠ 0 → ∃ t, exec (.clrerr idx) s = .next t ∧ OnlyRaises 2 s t)

/-- The reserved opcodes (30_encoding.md R76): ILLEGAL_OPCODE, whatever `idx` and `data` hold. -/
def Obligations.ReservedOpcodesRaiseIllegalOpcode : Prop :=
  ∀ (s : State) (idx : BitVec 4) (data : Word),
    decode (mkCommand 0xE idx data) = .reservedE idx ∧
      decode (mkCommand 0xF idx data) = .reservedF idx ∧
      (∃ t, exec (.reservedE idx) s = .next t ∧ OnlyRaises 1 s t) ∧
      (∃ t, exec (.reservedF idx) s = .next t ∧ OnlyRaises 1 s t)

/-! ## Rotation -/

/-- `rotl64` (40_rotation.md R100): bit `(i + n) mod 64` of the result is bit `i` of `x`; an amount of
0 mod 64 changes nothing, and any other is the two-shift formula. -/
def Obligations.RotationMovesEveryBit : Prop :=
  ∀ (x : Word) (n : Nat),
    (∀ i < 64, (rotl64 x n).getLsbD ((i + n) % 64) = x.getLsbD i) ∧
      (n % 64 = 0 → rotl64 x n = x) ∧
      (n % 64 ≠ 0 → rotl64 x n = x <<< (n % 64) ||| x >>> (64 - n % 64))

/-- The inverse law (40_rotation.md R102), with the second amount reduced or not. The spec marks the case
`r` = 64 and the unreduced amount as derived from R100 and R101. -/
def Obligations.RotationInverseLaw : Prop :=
  ∀ (x : Word) (r : Nat), r ≤ 64 →
    rotl64 (rotl64 x r) ((64 - r) % 64) = x ∧ rotl64 (rotl64 x r) (64 - r) = x

/-- Fixed points of rotation, and the number of 1 bits (40_rotation.md R104, which the spec marks as
derived from R100). -/
def Obligations.RotationFixedPoints : Prop :=
  ∀ (x : Word) (n : Nat),
    rotl64 0 n = 0 ∧ rotl64 0xFFFFFFFFFFFFFFFF n = 0xFFFFFFFFFFFFFFFF ∧
      ((List.range 64).filter fun i => (rotl64 x n).getLsbD i).length =
        ((List.range 64).filter fun i => x.getLsbD i).length

/-- ROTW (40_rotation.md R105): the named word is rotated by `data mod 64`, every other word keeps its
value. -/
def Obligations.RotwRotatesTheNamedWord : Prop :=
  ∀ (s : State) (idx : BitVec 4) (data : Word),
    decode (mkCommand 0x9 idx data) = .rotw idx data ∧
      (idx[3] = false → ∃ t, exec (.rotw idx data) s = .next t ∧
        (∀ w : Fin 8, t.word w =
          if w.val = idx.toNat then rotl64 (s.word w) (data.toNat % 64) else s.word w) ∧
        OnlyWordsChanged s t) ∧
      (idx[3] = true → ∃ t, exec (.rotw idx data) s = .next t ∧ OnlyRaises 2 s t)

/-! ## Round layers -/

/-- CINJ (41_round_layers.md R134, R120): `RC[r]` is XORed into the word `(3 r) mod 8`, and the other
seven keep their values. -/
def Obligations.CinjInjectsOneConstant : Prop :=
  ∀ (s : State) (r : BitVec 4) (data : Word),
    decode (mkCommand 0x5 r data) = .cinj r ∧
      ∃ t, exec (.cinj r) s = .next t ∧
        (∀ w : Fin 8, t.word w =
          if w.val = (3 * r.toNat) % 8 then s.word w ^^^ s.build.rc[r.toNat] else s.word w) ∧
        OnlyWordsChanged s t

/-- `cinj` is its own inverse (41_round_layers.md R121). -/
def Obligations.CinjIsAnInvolution : Prop :=
  ∀ (cfg : Config) (S : WordArray) (r : Fin 16), cinj cfg (cinj cfg S r) r = S

/-- ARX (41_round_layers.md R135, R122, R124, R125): each of the four pairs `(2 i + r, 2 i + r + 1)` mod 8
goes through the four operations in sequence, with the round's four amounts. -/
def Obligations.ArxTransformsTheFourPairs : Prop :=
  ∀ (s : State) (r : BitVec 4) (data : Word),
    decode (mkCommand 0x6 r data) = .arx r ∧
      ∃ t, exec (.arx r) s = .next t ∧
        (∀ i < 4, ∃ x x' y y' : Word,
          x = wordAt s.S (2 * i + r.toNat) +
            rotl64 (wordAt s.S (2 * i + r.toNat + 1)) s.build.rot1[r.toNat].val ∧
          y = wordAt s.S (2 * i + r.toNat + 1) ^^^ rotl64 x s.build.rot2[r.toNat].val ∧
          x' = x + rotl64 y s.build.rot3[r.toNat].val ∧
          y' = y ^^^ rotl64 x' s.build.rot4[r.toNat].val ∧
          wordAt t.S (2 * i + r.toNat) = x' ∧ wordAt t.S (2 * i + r.toNat + 1) = y') ∧
        OnlyWordsChanged s t

/-- The pairs are disjoint and cover all eight words for every round index, and the set of pairs
depends only on the parity of the index (41_round_layers.md R123, which the spec marks as derived from
R122). -/
def Obligations.ArxPairsCoverEveryWordOnce : Prop :=
  (∀ r : Fin 16, (∀ w < 8, ∃ i < 4, w = pairA r i ∨ w = pairB r i) ∧
      ∀ i < 4, ∀ j < 4, pairA r i ≠ pairB r j ∧
        (i ≠ j → pairA r i ≠ pairA r j ∧ pairB r i ≠ pairB r j)) ∧
    ∀ r r' : Fin 16, r.val % 2 = r'.val % 2 → ∀ i < 4,
      ∃ j < 4, pairA r i = pairA r' j ∧ pairB r i = pairB r' j

/-- The order of the four sub-steps does not matter (41_round_layers.md R126). -/
def Obligations.ArxSubStepOrderIsIrrelevant : Prop :=
  ∀ (cfg : Config) (S : WordArray) (r : Fin 16) (order : List Nat),
    order.Perm [0, 1, 2, 3] → order.foldl (arxSubStep cfg r) S = arx cfg S r

/-- The ARX layer is a bijection on the 512-bit state (41_round_layers.md R126). -/
def Obligations.ArxLayerIsBijective : Prop :=
  ∀ (cfg : Config) (r : Fin 16), Function.Bijective fun S : WordArray => arx cfg S r

/-- ARX corner cases (41_round_layers.md R138, which the spec marks as derived from R125 and
R104). -/
def Obligations.ArxCornerCases : Prop :=
  (∀ r1 r2 r3 r4 : Nat, arxPair 0 0 r1 r2 r3 r4 = (0, 0)) ∧
    (∀ (cfg : Config) (r : Fin 16), arx cfg zeroWords r = zeroWords) ∧
    (∀ r1 r2 r3 r4 : Nat,
      arxPair 1 0xFFFFFFFFFFFFFFFF r1 r2 r3 r4 = (0xFFFFFFFFFFFFFFFF, 0)) ∧
    (∀ x y : Word, arxPair x y 0 0 0 0 =
      (x + y + (y ^^^ (x + y)), (y ^^^ (x + y)) ^^^ (x + y + (y ^^^ (x + y))))) ∧
    arxPair 0xFFFFFFFFFFFFFFFF 1 0 0 0 0 = (1, 0) ∧
    ∀ x : Word, rotl64 x 0 = x

/-- MDS (41_round_layers.md R136, R127 to R129): each word by itself is XORed with three rotated copies,
of its entry value in the PARALLEL form and of the running value in the CHAINED form. -/
def Obligations.MdsDiffusesEachWord : Prop :=
  ∀ (s : State) (r : BitVec 4) (data : Word),
    decode (mkCommand 0x7 r data) = .mds r ∧
      ∃ t, exec (.mds r) s = .next t ∧
        (s.build.mdsForm = .parallel → ∀ w : Fin 8, t.word w =
          s.word w ^^^ rotl64 (s.word w) ((3 * r.toNat + 7) % 64) ^^^
            rotl64 (s.word w) ((5 * r.toNat + 23) % 64) ^^^
            rotl64 (s.word w) ((7 * r.toNat + 41) % 64)) ∧
        (s.build.mdsForm = .chained → ∀ w : Fin 8, ∃ a b : Word,
          a = s.word w ^^^ rotl64 (s.word w) ((3 * r.toNat + 7) % 64) ∧
            b = a ^^^ rotl64 a ((5 * r.toNat + 23) % 64) ∧
            t.word w = b ^^^ rotl64 b ((7 * r.toNat + 41) % 64)) ∧
        OnlyWordsChanged s t

/-- The MDS layer is not injective, in any round and in either form, and complementary words give equal
results (41_round_layers.md R130). -/
def Obligations.MdsWordIsNotInjective : Prop :=
  ∀ (form : MdsForm) (r : Fin 16),
    mdsWord form 0xFFFFFFFFFFFFFFFF r = 0 ∧ mdsWord form 0 r = 0 ∧
      ∀ w : Word, mdsWord form (w ^^^ 0xFFFFFFFFFFFFFFFF) r = mdsWord form w r

/-- GMIX (41_round_layers.md R137, R131, R132): every word is made from the snapshot before the edge. -/
def Obligations.GmixMixesTheSnapshot : Prop :=
  ∀ (s : State) (r : BitVec 4) (data : Word),
    decode (mkCommand 0x8 r data) = .gmix r ∧
      ∃ t, exec (.gmix r) s = .next t ∧
        (∀ w : Fin 8, t.word w = s.word w ^^^
          wordAt s.S (w.val + (2 * r.toNat + 1) % 8) ^^^
          wordAt s.S (w.val + (3 * r.toNat + 3) % 8)) ∧
        OnlyWordsChanged s t

/-- Global mixing by round (41_round_layers.md R133): a rotation of the words in rounds 7 and 15, the
identity in rounds 6 and 14, three distinct indices in every other round, and a bijection in all. The
spec marks R133 as derived from R131 and R132. -/
def Obligations.GmixDegenerateRoundsAndBijectivity : Prop :=
  ∀ r : Fin 16,
    mixOffset1 r % 2 = 1 ∧
      (mixOffset2 r = 0 ↔ r = 7 ∨ r = 15) ∧
      (mixOffset1 r = mixOffset2 r ↔ r = 6 ∨ r = 14) ∧
      (r = 7 ∨ r = 15 → ∀ S : WordArray, ∀ i < 8, wordAt (gmix S r) i = wordAt S (i + 7)) ∧
      (r = 6 ∨ r = 14 → ∀ S : WordArray, gmix S r = S) ∧
      Function.Bijective fun S : WordArray => gmix S r

/-! ## Rounds and the permutation -/

/-- RND (42_round_driver.md R165, R160): the four layers in sequence, in one edge. -/
def Obligations.RndAppliesTheFourLayers : Prop :=
  ∀ (s : State) (r : BitVec 4) (k : Fin 16) (data : Word), k.val = r.toNat →
    decode (mkCommand 0x4 r data) = .rnd r ∧
      ∃ t, exec (.rnd r) s = .next t ∧
        t.S = gmix (mds s.build (arx s.build (cinj s.build s.S k) k) k) k ∧
        OnlyWordsChanged s t

/-- RND leaves what `CINJ r; ARX r; MDS r; GMIX r` leave, in one edge for four
(42_round_driver.md R165). -/
def Obligations.RndEqualsItsFourLayerCommands : Prop :=
  ∀ (s : State) (r : BitVec 4), s.busy = false →
    ∃ t u : State, step (offering s [.rnd r]) = .next t ∧
      Machine.run 4 (offering s [.cinj r, .arx r, .mds r, .gmix r]) = .next u ∧
      t.S = u.S ∧ t.done = u.done ∧ t.busy = u.busy ∧ t.err = u.err ∧ t.ecause = u.ecause ∧
      t.rcnt = u.rcnt ∧ t.rspValid = u.rspValid ∧ t.responses = u.responses

/-- PERM, acceptance (42_round_driver.md R166). -/
def Obligations.PermAcceptanceStartsTheSequencer : Prop :=
  ∀ (s : State) (idx : BitVec 4) (data : Word),
    decode (mkCommand 0x3 idx data) = .perm idx ∧
      (idx = 0 → ∃ t, exec (.perm idx) s = .next t ∧
        t.busy = true ∧ t.rcnt = 0 ∧ t.done = false ∧ t.S = s.S ∧ t.err = s.err ∧
          t.ecause = s.ecause ∧ KeepsSurroundings s t ∧ NoResponse s t ∧
          t.cmdReady = false) ∧
      (idx ≠ 0 → ∃ t, exec (.perm idx) s = .next t ∧ OnlyRaises 2 s t)

/-- PERM, round step (42_round_driver.md R167), in every state whose `RCNT` is a round index `k`. -/
def Obligations.BusyEdgeRunsOneRound : Prop :=
  ∀ (s : State) (e : EdgeInput) (es : List EdgeInput) (k : Fin 16),
    s.inputs = e :: es → e.rst = false → s.busy = true → s.rcnt.toNat = k.val →
      ∃ t, step s = .next t ∧
        t.S = Machine.round s.build s.S k ∧ t.rcnt.toNat = k.val + 1 ∧
        t.busy = decide (k.val + 1 ≠ s.build.nrounds.val) ∧
        t.done = (s.done || decide (k.val + 1 = s.build.nrounds.val)) ∧
        t.err = s.err ∧ t.ecause = s.ecause ∧ t.build = s.build ∧ t.inputs = es ∧
        NoResponse s t

/-- PERM, from acceptance to completion (42_round_driver.md R168, which the spec marks as derived from
R161, R166 and R167; past the end of a list of inputs shorter than the PERM the edges are idle, which is
the model's choice, assumption log entry 2): whatever else the host drives
with `rst` = 0, the PERM accepted at an edge has run `k` rounds after `k` more edges, and after
`NROUNDS` of them it is complete with `S = p0(S)`; an edge with `rst` = 1 before that abandons it. -/
def Obligations.PermComputesP0 : Prop :=
  ∀ (s : State) (data : Word) (es : List EdgeInput),
    s.busy = false → s.inputs = EdgeInput.offer (mkCommand 0x3 0 data) :: es →
      (∀ k ≤ s.build.nrounds.val, (∀ e ∈ es.take k, e.rst = false) →
        ∃ t : State, Machine.run (k + 1) s = .next t ∧
          t.S = applyRounds s.build k s.S ∧ t.rcnt.toNat = k ∧
          t.busy = decide (k < s.build.nrounds.val) ∧
          t.done = decide (k = s.build.nrounds.val) ∧
          (k = s.build.nrounds.val → t.S = p0 s.build s.S) ∧
          t.err = s.err ∧ t.ecause = s.ecause ∧ t.build = s.build ∧ t.inputs = es.drop k ∧
          NoResponse s t) ∧
      (∀ k < s.build.nrounds.val, (∀ e ∈ es.take k, e.rst = false) →
        (∀ e, es[k]? = some e → e.rst = true → ∃ t : State,
          Machine.run (k + 2) s = .next t ∧ AtReset t ∧ t.build = s.build))

/-- The permutation is the rounds 0 to `NROUNDS`-1 in increasing order, each the four layers in strict
sequence (42_round_driver.md R160, R161). -/
def Obligations.P0IsTheRoundsInOrder : Prop :=
  ∀ (cfg : Config) (S : WordArray),
    p0 cfg S = (List.finRange 16).foldl
      (fun T r => if r.val < cfg.nrounds.val then gmix (mds cfg (arx cfg (cinj cfg T r) r) r) r
        else T) S

/-- RND 0, RND 1, ..., RND N-1 leave `S = p0(S)`, as PERM does, but with `DONE` = 0
(42_round_driver.md R165). -/
def Obligations.RndSequenceComputesP0 : Prop :=
  ∀ s : State, s.busy = false →
    ∃ t : State, Machine.run s.build.nrounds.val
        (offering s ((List.range s.build.nrounds.val).map fun k => .rnd (BitVec.ofNat 4 k))) =
          .next t ∧
      t.S = p0 s.build s.S ∧ t.done = false ∧ t.busy = false ∧ t.rcnt = s.rcnt

/-- `p0` is not a bijection, for every table content, every `NROUNDS` and both forms: the two states of
42_round_driver.md R164 differ and collide. The spec marks R164 as derived from R160, R161, R120, R130
and R138. -/
def Obligations.P0CollidesForEveryBuild : Prop :=
  ∀ cfg : Config,
    let A : WordArray := #v[cfg.rc[0], 0, 0, 0, 0, 0, 0, 0]
    let B : WordArray := #v[cfg.rc[0] ^^^ 1, 0xFFFFFFFFFFFFFFFF, 0, 0, 0, 0, 0, 0]
    A ≠ B ∧ p0 cfg A = p0 cfg B ∧ ¬ Function.Injective (p0 cfg) ∧
      cinj cfg A 0 = zeroWords ∧ cinj cfg B 0 = #v[1, 0xFFFFFFFFFFFFFFFF, 0, 0, 0, 0, 0, 0] ∧
      arx cfg (cinj cfg A 0) 0 = zeroWords ∧
      arx cfg (cinj cfg B 0) 0 = #v[0xFFFFFFFFFFFFFFFF, 0, 0, 0, 0, 0, 0, 0] ∧
      mds cfg (arx cfg (cinj cfg A 0) 0) 0 = zeroWords ∧
      mds cfg (arx cfg (cinj cfg B 0) 0) 0 = zeroWords

/-! ## Edges, reset and the sequencer -/

/-- A step at an edge that accepts a command is the execution of the command its ports carry, on the
state whose host inputs have moved on by one edge (20_memory.md R52). -/
def Obligations.StepRunsTheOfferedCommand : Prop :=
  ∀ (s : State) (e : EdgeInput) (es : List EdgeInput),
    s.inputs = e :: es → e.rst = false → s.busy = false → e.cmdValid = true →
      step s = exec (decode (mkCommand e.cmdOp e.cmdIdx e.cmdData)) { s with inputs := es }

/-- A command placed for the next edge is the command the next step runs. Placing one is the model's
stand-in for the host's offer (assumption log entry 5). -/
def Obligations.PlacedCommandRunsNext : Prop :=
  ∀ (s : State) (w : Nat), w < 2 ^ 72 →
    step (s.withFetchWord 72 w) = exec (decode (BitVec.ofNat 72 w)) { s with busy := false }

/-- The four things an edge can be, in their order (20_memory.md R52): a reset, a round step, the
acceptance of a command, an idle edge. A command that is not accepted has no effect at all, and an
accepted one leaves `BUSY` = 0 unless it is a legal PERM. -/
def Obligations.EdgePerformsExactlyOneAction : Prop :=
  ∀ (s : State) (e : EdgeInput) (es : List EdgeInput), s.inputs = e :: es →
    (e.rst = true → ∃ t, step s = .next t ∧ AtReset t ∧ t.build = s.build ∧ t.inputs = es) ∧
    (e.rst = false → s.busy = true → step s = .next (permRoundStep { s with inputs := es })) ∧
    (Accepts e s → step s =
        exec (decode (mkCommand e.cmdOp e.cmdIdx e.cmdData)) { s with inputs := es } ∧
      ∃ t, step s = .next t ∧ (t.busy = true ↔ e.cmdOp = 0x3#4 ∧ e.cmdIdx = 0#4)) ∧
    (e.rst = false → s.busy = false → e.cmdValid = false → ∃ t, step s = .next t ∧
      t.S = s.S ∧ t.done = s.done ∧ KeepsControl s t ∧ t.build = s.build ∧ t.inputs = es ∧
      NoResponse s t) ∧
    (∀ e' : EdgeInput, e'.rst = e.rst → ¬ Accepts e s → ¬ Accepts e' s → ∃ t u,
      step s = .next t ∧ step { s with inputs := e' :: es } = .next u ∧ SameButUnspecified t u)

/-- Reset (70_reset_and_hazards.md R270): at every edge with `rst` = 1 every register takes its reset
value, whatever else is happening, and the core is ready. -/
def Obligations.ResetEdgeLoadsResetValues : Prop :=
  ∀ (s : State) (e : EdgeInput) (es : List EdgeInput),
    s.inputs = e :: es → e.rst = true →
      ∃ t, step s = .next t ∧ AtReset t ∧ t.cmdReady = true ∧ t.build = s.build ∧
        t.inputs = es

/-- The reset values of every piece of state with storage (10_state.md R37), in every build. -/
def Obligations.ResetStateValues : Prop :=
  (∀ cfg : Config, AtReset (State.resetOf cfg) ∧ (State.resetOf cfg).build = cfg) ∧
    AtReset State.reset

/-- `STATUS` (10_state.md R28): its layout, its value after reset in every build, which the spec marks as
derived from the layout, and RDSTAT returns it and writes no field of it. -/
def Obligations.StatusRegisterLayout : Prop :=
  (∀ s : State,
    s.status.getLsbD 0 = s.busy ∧ s.status.getLsbD 1 = s.done ∧ s.status.getLsbD 2 = s.err ∧
      s.status.getLsbD 3 = false ∧ s.status.extractLsb' 4 4 = s.ecause ∧
      s.status.extractLsb' 8 5 = s.rcnt ∧ s.status.extractLsb' 13 3 = 0 ∧
      (s.status.extractLsb' 16 5).toNat = s.build.nrounds.val ∧
      s.status.extractLsb' 21 43 = 0) ∧
    (∀ cfg : Config, (State.resetOf cfg).status = BitVec.ofNat 64 cfg.nrounds.val <<< 16) ∧
    ∀ s : State, ∃ t, exec (.rdstat 0) s = .next t ∧ t.rspValid = true ∧
      t.rspData = s.status ∧ t.status = s.status

/-- `DONE` (10_state.md R25): cleared by every legal state-changing command, set by the completion of a
PERM, cleared by reset, and unchanged by everything else. -/
def Obligations.DoneFollowsItsRule : Prop :=
  ∀ (s : State) (e : EdgeInput) (es : List EdgeInput), s.inputs = e :: es →
    ∃ t, step s = .next t ∧
      (e.rst = true → t.done = false) ∧
      (e.rst = false → s.busy = true →
        t.done = (s.done || decide (s.rcnt.toNat + 1 = s.build.nrounds.val))) ∧
      (Accepts e s →
        t.done = (if changesState (decode e.command) && (decode e.command).wellFormed then false
          else s.done)) ∧
      (e.rst = false → s.busy = false → e.cmdValid = false → t.done = s.done)

/-- `ERR` and `ECAUSE` (10_state.md R26, R27): a command that raises an error sets `ERR` and, where it
was 0, the cause; a legal CLRERR and reset clear both; nothing else writes them. -/
def Obligations.ErrorRegistersFollowTheirRule : Prop :=
  ∀ (s : State) (e : EdgeInput) (es : List EdgeInput), s.inputs = e :: es →
    ∃ t, step s = .next t ∧
      (e.rst = true → t.err = false ∧ t.ecause = 0) ∧
      (Accepts e s → decode e.command = .clrerr 0 → t.err = false ∧ t.ecause = 0) ∧
      (Accepts e s → (decode e.command).wellFormed = false →
        t.err = true ∧ (s.err = true → t.ecause = s.ecause) ∧
          (s.err = false → t.ecause =
            if e.cmdOp = 0xE#4 ∨ e.cmdOp = 0xF#4 then 1#4 else 2#4)) ∧
      (e.rst = false →
        ¬ (Accepts e s ∧
          ((decode e.command).wellFormed = false ∨ decode e.command = .clrerr 0)) →
        t.err = s.err ∧ t.ecause = s.ecause)

/-- `BUSY` and `RCNT` (10_state.md R23, R24): written by the acceptance of a PERM, by its round steps
and by reset, and by nothing else. -/
def Obligations.SequencerRegistersFollowTheirRule : Prop :=
  ∀ (s : State) (e : EdgeInput) (es : List EdgeInput), s.inputs = e :: es →
    ∃ t, step s = .next t ∧
      (e.rst = true → t.busy = false ∧ t.rcnt = 0) ∧
      (Accepts e s → decode e.command = .perm 0 → t.busy = true ∧ t.rcnt = 0) ∧
      (e.rst = false → s.busy = true → t.rcnt = s.rcnt + 1 ∧
        (t.busy = false ↔ (s.rcnt + 1).toNat = s.build.nrounds.val)) ∧
      (e.rst = false → s.busy = false → ¬ (Accepts e s ∧ decode e.command = .perm 0) →
        t.busy = false ∧ t.rcnt = s.rcnt)

/-- Which commands touch which words: NOP, the reads and CLRERR leave `S` alone (10_state.md R20), and so
do the acceptance of a PERM (42_round_driver.md R166) and every command that raises an error
(60_exceptions.md R234, 30_encoding.md R76); LDW and ROTW touch the word they name, and CINJ
the word `(3 r) mod 8` (R20). -/
def Obligations.CommandsTouchOnlyTheirWords : Prop :=
  ∀ (i : Instr) (s t : State), exec i s = .next t →
    (i.wellFormed = false → t.S = s.S) ∧
      (∀ x, i = .nop x ∨ i = .rdw x ∨ i = .rdrc x ∨ i = .rdrot x ∨ i = .rdstat x ∨
        i = .clrerr x ∨ i = .perm x ∨ i = .reservedE x ∨ i = .reservedF x → t.S = s.S) ∧
      (∀ x d, i = .ldw x d ∨ i = .rotw x d → ∀ w : Fin 8, w.val ≠ x.toNat →
        t.word w = s.word w) ∧
      (∀ r, i = .cinj r → ∀ w : Fin 8, w.val ≠ (3 * r.toNat) % 8 → t.word w = s.word w)

/-- The response register and the trace (10_state.md R33, 20_memory.md R54): an edge that accepts a
legal read shows a response and appends it to the trace, and every other edge does neither. That a reset
edge keeps the trace is the model's choice, read from 20_memory.md R67 (assumption log entry 3). -/
def Obligations.ResponsesComeFromLegalReads : Prop :=
  ∀ (s : State) (e : EdgeInput) (es : List EdgeInput), s.inputs = e :: es →
    ∃ t, step s = .next t ∧
      (t.rspValid = true ↔ Accepts e s ∧ reads (decode e.command) = true ∧
        (decode e.command).wellFormed = true) ∧
      (t.rspValid = true → t.responses = s.responses ++ [t.rspData]) ∧
      (t.rspValid = false → t.responses = s.responses)

/-- The ROMs and the round count are immutable: no command, no port and no reset writes them, over any
run (10_state.md R31, 70_reset_and_hazards.md R274). -/
def Obligations.NoRunWritesTheBuild : Prop :=
  ∀ (k : Nat) (s t : State), Machine.run k s = .next t → t.build = s.build

/-- No run of any length from any state stops: no error blocks further commands, and every edge leaves a
next state (60_exceptions.md R230, R237). -/
def Obligations.NoRunEverStops : Prop :=
  ∀ (k : Nat) (s : State), RunSafe k s

/-- Data independence and constant time (42_round_driver.md R162, 70_reset_and_hazards.md R281): from two
states that differ at most in data, an edge leaves two states that differ at most in data, with the same
`STATUS`, and so does a run of any length. No flag, counter or port ever depends on the state words, on
`rsp_data` or on the values answered earlier. That both runs take the same number of free values is the
model's own (assumption log entry 4). -/
def Obligations.ControlDoesNotDependOnData : Prop :=
  (∀ s u : State, DifferOnlyInData s u →
    ∃ t v, step s = .next t ∧ step u = .next v ∧ DifferOnlyInData t v ∧ v.status = t.status ∧
      v.cmdReady = t.cmdReady) ∧
    ∀ (k : Nat) (s u : State), DifferOnlyInData s u →
      ∃ t v, Machine.run k s = .next t ∧ Machine.run k u = .next v ∧ DifferOnlyInData t v ∧
        v.status = t.status ∧ v.cmdReady = t.cmdReady

/-- Every step keeps the invariant (10_state.md R23 to R27, R33). -/
def Obligations.StepKeepsTheInvariant : Prop :=
  ∀ s t : State, s.Inv → step s = .next t → t.Inv

/-- The invariant holds after reset, in every build. -/
def Obligations.ResetMeetsTheInvariant : Prop :=
  (∀ cfg : Config, (State.resetOf cfg).Inv) ∧ State.reset.Inv

/-- A build whose round count is 0 or above 16 is refused, and every round count of the model is one
that elaborates (00_scope.md R6, 60_exceptions.md R231). -/
def Obligations.OnlyRoundCounts1To16Elaborate : Prop :=
  (∀ n : Nat, RoundCount.elaborate n = none ↔ n = 0 ∨ 16 < n) ∧
    ∀ (n : Nat) (c : RoundCount), RoundCount.elaborate n = some c ↔ c.val = n

/-- A run that does not begin with a reset edge is refused, and an ended run ends with `BUSY` = 0
(70_reset_and_hazards.md R273, 20_memory.md R67). -/
def Obligations.RunsBeginWithResetAndEndIdle : Prop :=
  (∀ (cfg : Config) (e : EdgeInput) (es : List EdgeInput), e.rst = false →
      runEdges cfg (e :: es) = .refused) ∧
    (∀ (cfg : Config) (es : List EdgeInput) (o : Observation), runEdges cfg es = .ended o →
      o.final.busy = false) ∧
    ∀ (cfg : Config) (e : EdgeInput) (es : List EdgeInput), e.rst = true →
      runEdges cfg (e :: es) ≠ .refused

/-! ## Sequences of commands -/

/-- LOADSTATE loads the eight words, and READSTATE answers them, word 0 first (30_encoding.md R81). -/
def Obligations.LoadStateThenReadStateAnswersIt : Prop :=
  ∀ (s : State) (v : WordArray), s.busy = false →
    ∃ t : State, Machine.run 16
        (offering s ((AsmLine.loadState v).instrs ++ AsmLine.readState.instrs)) = .next t ∧
      t.S = v ∧ t.responses = s.responses ++ v.toList

/-- ROTR undoes ROTW by the same amount, whatever the 64-bit amount is (30_encoding.md R81,
40_rotation.md R102). -/
def Obligations.RotrUndoesRotw : Prop :=
  ∀ (s : State) (w : Fin 8) (n : Word), s.busy = false →
    ∃ t : State, Machine.run 2
        (offering s (.rotw (wordIdx w) n :: (AsmLine.rotr w n).instrs)) = .next t ∧ t.S = s.S
end

