-- ==== Sys2Proof/Laws/State.lean ====
section
/-! SUPPORT. What each update of the state leaves in each field, one lemma per field, so that no proof
unfolds a record update. -/

namespace Sys2Proof.Machine.Laws

@[simp] theorem clearDone_S (s : State) : s.clearDone.S = s.S := rfl
@[simp] theorem clearDone_busy (s : State) : s.clearDone.busy = s.busy := rfl
@[simp] theorem clearDone_done (s : State) : s.clearDone.done = false := rfl
@[simp] theorem clearDone_err (s : State) : s.clearDone.err = s.err := rfl
@[simp] theorem clearDone_ecause (s : State) : s.clearDone.ecause = s.ecause := rfl
@[simp] theorem clearDone_rcnt (s : State) : s.clearDone.rcnt = s.rcnt := rfl
@[simp] theorem clearDone_rspValid (s : State) : s.clearDone.rspValid = s.rspValid := rfl
@[simp] theorem clearDone_rspData (s : State) : s.clearDone.rspData = s.rspData := rfl
@[simp] theorem clearDone_build (s : State) : s.clearDone.build = s.build := rfl
@[simp] theorem clearDone_inputs (s : State) : s.clearDone.inputs = s.inputs := rfl
@[simp] theorem clearDone_responses (s : State) : s.clearDone.responses = s.responses := rfl
@[simp] theorem clearDone_freeIdx (s : State) : s.clearDone.freeIdx = s.freeIdx := rfl

@[simp] theorem setWord_S (s : State) (w : Fin 8) (v : Word) : (s.setWord w v).S = s.S.set w v :=
  rfl
@[simp] theorem setWord_busy (s : State) (w : Fin 8) (v : Word) : (s.setWord w v).busy = s.busy :=
  rfl
@[simp] theorem setWord_done (s : State) (w : Fin 8) (v : Word) : (s.setWord w v).done = s.done :=
  rfl
@[simp] theorem setWord_err (s : State) (w : Fin 8) (v : Word) : (s.setWord w v).err = s.err := rfl
@[simp] theorem setWord_ecause (s : State) (w : Fin 8) (v : Word) :
    (s.setWord w v).ecause = s.ecause :=
  rfl
@[simp] theorem setWord_rcnt (s : State) (w : Fin 8) (v : Word) : (s.setWord w v).rcnt = s.rcnt :=
  rfl
@[simp] theorem setWord_rspValid (s : State) (w : Fin 8) (v : Word) :
    (s.setWord w v).rspValid = s.rspValid :=
  rfl
@[simp] theorem setWord_rspData (s : State) (w : Fin 8) (v : Word) :
    (s.setWord w v).rspData = s.rspData :=
  rfl
@[simp] theorem setWord_build (s : State) (w : Fin 8) (v : Word) :
    (s.setWord w v).build = s.build :=
  rfl
@[simp] theorem setWord_inputs (s : State) (w : Fin 8) (v : Word) :
    (s.setWord w v).inputs = s.inputs :=
  rfl
@[simp] theorem setWord_responses (s : State) (w : Fin 8) (v : Word) :
    (s.setWord w v).responses = s.responses :=
  rfl
@[simp] theorem setWord_freeIdx (s : State) (w : Fin 8) (v : Word) :
    (s.setWord w v).freeIdx = s.freeIdx :=
  rfl

@[simp] theorem setWords_S (s : State) (v : WordArray) : (s.setWords v).S = v := rfl
@[simp] theorem setWords_busy (s : State) (v : WordArray) : (s.setWords v).busy = s.busy := rfl
@[simp] theorem setWords_done (s : State) (v : WordArray) : (s.setWords v).done = s.done := rfl
@[simp] theorem setWords_err (s : State) (v : WordArray) : (s.setWords v).err = s.err := rfl
@[simp] theorem setWords_ecause (s : State) (v : WordArray) : (s.setWords v).ecause = s.ecause :=
  rfl
@[simp] theorem setWords_rcnt (s : State) (v : WordArray) : (s.setWords v).rcnt = s.rcnt := rfl
@[simp] theorem setWords_rspValid (s : State) (v : WordArray) :
    (s.setWords v).rspValid = s.rspValid :=
  rfl
@[simp] theorem setWords_rspData (s : State) (v : WordArray) : (s.setWords v).rspData = s.rspData :=
  rfl
@[simp] theorem setWords_build (s : State) (v : WordArray) : (s.setWords v).build = s.build := rfl
@[simp] theorem setWords_inputs (s : State) (v : WordArray) : (s.setWords v).inputs = s.inputs :=
  rfl
@[simp] theorem setWords_responses (s : State) (v : WordArray) :
    (s.setWords v).responses = s.responses :=
  rfl
@[simp] theorem setWords_freeIdx (s : State) (v : WordArray) : (s.setWords v).freeIdx = s.freeIdx :=
  rfl

@[simp] theorem noResponse_S (s : State) : s.noResponse.S = s.S := rfl
@[simp] theorem noResponse_busy (s : State) : s.noResponse.busy = s.busy := rfl
@[simp] theorem noResponse_done (s : State) : s.noResponse.done = s.done := rfl
@[simp] theorem noResponse_err (s : State) : s.noResponse.err = s.err := rfl
@[simp] theorem noResponse_ecause (s : State) : s.noResponse.ecause = s.ecause := rfl
@[simp] theorem noResponse_rcnt (s : State) : s.noResponse.rcnt = s.rcnt := rfl
@[simp] theorem noResponse_rspValid (s : State) : s.noResponse.rspValid = false := rfl
@[simp] theorem noResponse_rspData (s : State) :
    s.noResponse.rspData = Config.freeRspData s.freeIdx :=
  rfl
@[simp] theorem noResponse_build (s : State) : s.noResponse.build = s.build := rfl
@[simp] theorem noResponse_inputs (s : State) : s.noResponse.inputs = s.inputs := rfl
@[simp] theorem noResponse_responses (s : State) : s.noResponse.responses = s.responses := rfl
@[simp] theorem noResponse_freeIdx (s : State) : s.noResponse.freeIdx = s.freeIdx + 1 := rfl

@[simp] theorem respond_S (s : State) (v : Word) : (s.respond v).S = s.S := rfl
@[simp] theorem respond_busy (s : State) (v : Word) : (s.respond v).busy = s.busy := rfl
@[simp] theorem respond_done (s : State) (v : Word) : (s.respond v).done = s.done := rfl
@[simp] theorem respond_err (s : State) (v : Word) : (s.respond v).err = s.err := rfl
@[simp] theorem respond_ecause (s : State) (v : Word) : (s.respond v).ecause = s.ecause := rfl
@[simp] theorem respond_rcnt (s : State) (v : Word) : (s.respond v).rcnt = s.rcnt := rfl
@[simp] theorem respond_rspValid (s : State) (v : Word) : (s.respond v).rspValid = true := rfl
@[simp] theorem respond_rspData (s : State) (v : Word) : (s.respond v).rspData = v := rfl
@[simp] theorem respond_build (s : State) (v : Word) : (s.respond v).build = s.build := rfl
@[simp] theorem respond_inputs (s : State) (v : Word) : (s.respond v).inputs = s.inputs := rfl
@[simp] theorem respond_responses (s : State) (v : Word) :
    (s.respond v).responses = s.responses ++ [v] :=
  rfl
@[simp] theorem respond_freeIdx (s : State) (v : Word) : (s.respond v).freeIdx = s.freeIdx := rfl

@[simp] theorem changed_S (s : State) : s.changed.S = s.S := rfl
@[simp] theorem changed_busy (s : State) : s.changed.busy = s.busy := rfl
@[simp] theorem changed_done (s : State) : s.changed.done = false := rfl
@[simp] theorem changed_err (s : State) : s.changed.err = s.err := rfl
@[simp] theorem changed_ecause (s : State) : s.changed.ecause = s.ecause := rfl
@[simp] theorem changed_rcnt (s : State) : s.changed.rcnt = s.rcnt := rfl
@[simp] theorem changed_rspValid (s : State) : s.changed.rspValid = false := rfl
@[simp] theorem changed_rspData (s : State) : s.changed.rspData = Config.freeRspData s.freeIdx :=
  rfl
@[simp] theorem changed_build (s : State) : s.changed.build = s.build := rfl
@[simp] theorem changed_inputs (s : State) : s.changed.inputs = s.inputs := rfl
@[simp] theorem changed_responses (s : State) : s.changed.responses = s.responses := rfl
@[simp] theorem changed_freeIdx (s : State) : s.changed.freeIdx = s.freeIdx + 1 := rfl

@[simp] theorem raiseError_S (e : InterfaceError) (s : State) : (raiseError e s).S = s.S := rfl
@[simp] theorem raiseError_busy (e : InterfaceError) (s : State) : (raiseError e s).busy = s.busy :=
  rfl
@[simp] theorem raiseError_done (e : InterfaceError) (s : State) : (raiseError e s).done = s.done :=
  rfl
@[simp] theorem raiseError_err (e : InterfaceError) (s : State) : (raiseError e s).err = true := rfl
@[simp] theorem raiseError_ecause (e : InterfaceError) (s : State) :
    (raiseError e s).ecause = (if s.err then s.ecause else causeCode e) :=
  rfl
@[simp] theorem raiseError_rcnt (e : InterfaceError) (s : State) : (raiseError e s).rcnt = s.rcnt :=
  rfl
@[simp] theorem raiseError_rspValid (e : InterfaceError) (s : State) :
    (raiseError e s).rspValid = false :=
  rfl
@[simp] theorem raiseError_rspData (e : InterfaceError) (s : State) :
    (raiseError e s).rspData = Config.freeRspData s.freeIdx :=
  rfl
@[simp] theorem raiseError_build (e : InterfaceError) (s : State) :
    (raiseError e s).build = s.build :=
  rfl
@[simp] theorem raiseError_inputs (e : InterfaceError) (s : State) :
    (raiseError e s).inputs = s.inputs :=
  rfl
@[simp] theorem raiseError_responses (e : InterfaceError) (s : State) :
    (raiseError e s).responses = s.responses :=
  rfl
@[simp] theorem raiseError_freeIdx (e : InterfaceError) (s : State) :
    (raiseError e s).freeIdx = s.freeIdx + 1 :=
  rfl

@[simp] theorem clearError_S (s : State) : (clearError s).S = s.S := rfl
@[simp] theorem clearError_busy (s : State) : (clearError s).busy = s.busy := rfl
@[simp] theorem clearError_done (s : State) : (clearError s).done = s.done := rfl
@[simp] theorem clearError_err (s : State) : (clearError s).err = false := rfl
@[simp] theorem clearError_ecause (s : State) : (clearError s).ecause = 0 := rfl
@[simp] theorem clearError_rcnt (s : State) : (clearError s).rcnt = s.rcnt := rfl
@[simp] theorem clearError_rspValid (s : State) : (clearError s).rspValid = false := rfl
@[simp] theorem clearError_rspData (s : State) :
    (clearError s).rspData = Config.freeRspData s.freeIdx :=
  rfl
@[simp] theorem clearError_build (s : State) : (clearError s).build = s.build := rfl
@[simp] theorem clearError_inputs (s : State) : (clearError s).inputs = s.inputs := rfl
@[simp] theorem clearError_responses (s : State) : (clearError s).responses = s.responses := rfl
@[simp] theorem clearError_freeIdx (s : State) : (clearError s).freeIdx = s.freeIdx + 1 := rfl

@[simp] theorem resetEdge_S (s : State) : (resetEdge s).S = zeroWords := rfl
@[simp] theorem resetEdge_busy (s : State) : (resetEdge s).busy = false := rfl
@[simp] theorem resetEdge_done (s : State) : (resetEdge s).done = false := rfl
@[simp] theorem resetEdge_err (s : State) : (resetEdge s).err = false := rfl
@[simp] theorem resetEdge_ecause (s : State) : (resetEdge s).ecause = 0 := rfl
@[simp] theorem resetEdge_rcnt (s : State) : (resetEdge s).rcnt = 0 := rfl
@[simp] theorem resetEdge_rspValid (s : State) : (resetEdge s).rspValid = false := rfl
@[simp] theorem resetEdge_rspData (s : State) : (resetEdge s).rspData = 0 := rfl
@[simp] theorem resetEdge_build (s : State) : (resetEdge s).build = s.build := rfl
@[simp] theorem resetEdge_inputs (s : State) : (resetEdge s).inputs = s.inputs := rfl
@[simp] theorem resetEdge_responses (s : State) : (resetEdge s).responses = s.responses := rfl
@[simp] theorem resetEdge_freeIdx (s : State) : (resetEdge s).freeIdx = s.freeIdx := rfl

@[simp] theorem idleEdge_S (s : State) : (idleEdge s).S = s.S := rfl
@[simp] theorem idleEdge_busy (s : State) : (idleEdge s).busy = s.busy := rfl
@[simp] theorem idleEdge_done (s : State) : (idleEdge s).done = s.done := rfl
@[simp] theorem idleEdge_err (s : State) : (idleEdge s).err = s.err := rfl
@[simp] theorem idleEdge_ecause (s : State) : (idleEdge s).ecause = s.ecause := rfl
@[simp] theorem idleEdge_rcnt (s : State) : (idleEdge s).rcnt = s.rcnt := rfl
@[simp] theorem idleEdge_rspValid (s : State) : (idleEdge s).rspValid = false := rfl
@[simp] theorem idleEdge_rspData (s : State) :
    (idleEdge s).rspData = Config.freeRspData s.freeIdx :=
  rfl
@[simp] theorem idleEdge_build (s : State) : (idleEdge s).build = s.build := rfl
@[simp] theorem idleEdge_inputs (s : State) : (idleEdge s).inputs = s.inputs := rfl
@[simp] theorem idleEdge_responses (s : State) : (idleEdge s).responses = s.responses := rfl
@[simp] theorem idleEdge_freeIdx (s : State) : (idleEdge s).freeIdx = s.freeIdx + 1 := rfl

@[simp] theorem sampled_S (s : State) : s.sampled.S = s.S := rfl
@[simp] theorem sampled_busy (s : State) : s.sampled.busy = s.busy := rfl
@[simp] theorem sampled_done (s : State) : s.sampled.done = s.done := rfl
@[simp] theorem sampled_err (s : State) : s.sampled.err = s.err := rfl
@[simp] theorem sampled_ecause (s : State) : s.sampled.ecause = s.ecause := rfl
@[simp] theorem sampled_rcnt (s : State) : s.sampled.rcnt = s.rcnt := rfl
@[simp] theorem sampled_rspValid (s : State) : s.sampled.rspValid = s.rspValid := rfl
@[simp] theorem sampled_rspData (s : State) : s.sampled.rspData = s.rspData := rfl
@[simp] theorem sampled_build (s : State) : s.sampled.build = s.build := rfl
@[simp] theorem sampled_inputs (s : State) : s.sampled.inputs = s.inputs.tail := rfl
@[simp] theorem sampled_responses (s : State) : s.sampled.responses = s.responses := rfl
@[simp] theorem sampled_freeIdx (s : State) : s.sampled.freeIdx = s.freeIdx := rfl

@[simp] theorem offerNext_S (s : State) (c : Command) : (s.offerNext c).S = s.S := rfl
@[simp] theorem offerNext_busy (s : State) (c : Command) : (s.offerNext c).busy = false := rfl
@[simp] theorem offerNext_done (s : State) (c : Command) : (s.offerNext c).done = s.done := rfl
@[simp] theorem offerNext_err (s : State) (c : Command) : (s.offerNext c).err = s.err := rfl
@[simp] theorem offerNext_ecause (s : State) (c : Command) : (s.offerNext c).ecause = s.ecause :=
  rfl
@[simp] theorem offerNext_rcnt (s : State) (c : Command) : (s.offerNext c).rcnt = s.rcnt := rfl
@[simp] theorem offerNext_rspValid (s : State) (c : Command) :
    (s.offerNext c).rspValid = s.rspValid :=
  rfl
@[simp] theorem offerNext_rspData (s : State) (c : Command) : (s.offerNext c).rspData = s.rspData :=
  rfl
@[simp] theorem offerNext_build (s : State) (c : Command) : (s.offerNext c).build = s.build := rfl
@[simp] theorem offerNext_inputs (s : State) (c : Command) :
    (s.offerNext c).inputs = EdgeInput.offer c :: s.inputs :=
  rfl
@[simp] theorem offerNext_responses (s : State) (c : Command) :
    (s.offerNext c).responses = s.responses :=
  rfl
@[simp] theorem offerNext_freeIdx (s : State) (c : Command) : (s.offerNext c).freeIdx = s.freeIdx :=
  rfl

@[simp] theorem startPerm_S (s : State) : (startPerm s).S = s.S := rfl
@[simp] theorem startPerm_busy (s : State) : (startPerm s).busy = true := rfl
@[simp] theorem startPerm_done (s : State) : (startPerm s).done = false := rfl
@[simp] theorem startPerm_err (s : State) : (startPerm s).err = s.err := rfl
@[simp] theorem startPerm_ecause (s : State) : (startPerm s).ecause = s.ecause := rfl
@[simp] theorem startPerm_rcnt (s : State) : (startPerm s).rcnt = 0 := rfl
@[simp] theorem startPerm_rspValid (s : State) : (startPerm s).rspValid = false := rfl
@[simp] theorem startPerm_rspData (s : State) :
    (startPerm s).rspData = Config.freeRspData s.freeIdx :=
  rfl
@[simp] theorem startPerm_build (s : State) : (startPerm s).build = s.build := rfl
@[simp] theorem startPerm_inputs (s : State) : (startPerm s).inputs = s.inputs := rfl
@[simp] theorem startPerm_responses (s : State) : (startPerm s).responses = s.responses := rfl
@[simp] theorem startPerm_freeIdx (s : State) : (startPerm s).freeIdx = s.freeIdx + 1 := rfl

@[simp] theorem permRoundStep_S (s : State) :
    (permRoundStep s).S = round s.build s.S (roundNumber s.rcnt.toNat) :=
  rfl
@[simp] theorem permRoundStep_busy (s : State) :
    (permRoundStep s).busy = (if s.lastRound then false else s.busy) :=
  rfl
@[simp] theorem permRoundStep_done (s : State) :
    (permRoundStep s).done = (if s.lastRound then true else s.done) :=
  rfl
@[simp] theorem permRoundStep_err (s : State) : (permRoundStep s).err = s.err := rfl
@[simp] theorem permRoundStep_ecause (s : State) : (permRoundStep s).ecause = s.ecause := rfl
@[simp] theorem permRoundStep_rcnt (s : State) : (permRoundStep s).rcnt = s.rcnt + 1 := rfl
@[simp] theorem permRoundStep_rspValid (s : State) : (permRoundStep s).rspValid = false := rfl
@[simp] theorem permRoundStep_rspData (s : State) :
    (permRoundStep s).rspData = Config.freeRspData s.freeIdx :=
  rfl
@[simp] theorem permRoundStep_build (s : State) : (permRoundStep s).build = s.build := rfl
@[simp] theorem permRoundStep_inputs (s : State) : (permRoundStep s).inputs = s.inputs := rfl
@[simp] theorem permRoundStep_responses (s : State) : (permRoundStep s).responses = s.responses :=
  rfl
@[simp] theorem permRoundStep_freeIdx (s : State) : (permRoundStep s).freeIdx = s.freeIdx + 1 := rfl

@[simp] theorem resetOf_S (cfg : Config) : (State.resetOf cfg).S = zeroWords := rfl
@[simp] theorem resetOf_busy (cfg : Config) : (State.resetOf cfg).busy = false := rfl
@[simp] theorem resetOf_done (cfg : Config) : (State.resetOf cfg).done = false := rfl
@[simp] theorem resetOf_err (cfg : Config) : (State.resetOf cfg).err = false := rfl
@[simp] theorem resetOf_ecause (cfg : Config) : (State.resetOf cfg).ecause = 0 := rfl
@[simp] theorem resetOf_rcnt (cfg : Config) : (State.resetOf cfg).rcnt = 0 := rfl
@[simp] theorem resetOf_rspValid (cfg : Config) : (State.resetOf cfg).rspValid = false := rfl
@[simp] theorem resetOf_rspData (cfg : Config) : (State.resetOf cfg).rspData = 0 := rfl
@[simp] theorem resetOf_build (cfg : Config) : (State.resetOf cfg).build = cfg := rfl
@[simp] theorem resetOf_inputs (cfg : Config) : (State.resetOf cfg).inputs = [] := rfl
@[simp] theorem resetOf_responses (cfg : Config) : (State.resetOf cfg).responses = [] := rfl
@[simp] theorem resetOf_freeIdx (cfg : Config) : (State.resetOf cfg).freeIdx = 0 := rfl

end Sys2Proof.Machine.Laws
end

