-- ==== Sys2Proof/Laws/Ops.lean ====
section
/-! SUPPORT. One lemma for each shared operation that says what it can do, for proofs to cite instead of
unfolding it. -/

namespace Sys2Proof.Machine.Laws

/-! ## Decoding -/

@[simp] theorem op_mkCommand (op idx : BitVec 4) (data : Word) :
    (mkCommand op idx data).op = op := by
  ext k hk
  simp [mkCommand, Command.op]
  grind

@[simp] theorem idx_mkCommand (op idx : BitVec 4) (data : Word) :
    (mkCommand op idx data).idx = idx := by
  ext k hk
  simp [mkCommand, Command.idx]
  grind

@[simp] theorem data_mkCommand (op idx : BitVec 4) (data : Word) :
    (mkCommand op idx data).data = data := by
  ext k hk
  simp [mkCommand, Command.data]
  grind

/-- The command on the ports decodes from its three fields. -/
theorem decode_command (e : EdgeInput) :
    decode e.command = decodeFields e.cmdOp e.cmdIdx e.cmdData := by
  simp [decode, EdgeInput.command]

/-! ## Operand classes -/

/-- A class Z command either has `idx` = 0 and its effect, or raises BAD_INDEX. -/
theorem classZ_cases (idx : BitVec 4) (s effect : State) :
    (idx = 0#4 ∧ classZ idx s effect = effect) ∨
      (idx ≠ 0#4 ∧ classZ idx s effect = raiseError .badIndex s) := by
  by_cases h : idx = 0#4 <;> simp [classZ, h]

/-- A class W command either has `idx[3]` = 0 and its effect on word `idx[2:0]`, or raises
BAD_INDEX. -/
theorem classW_cases (idx : BitVec 4) (s : State) (effect : Fin 8 → State) :
    (idx[3] = false ∧ classW idx s effect = effect (wordIndex idx)) ∨
      (idx[3] = true ∧ classW idx s effect = raiseError .badIndex s) := by
  cases h : idx[3] <;> simp [classW, h]

/-! ## Edges -/

/-- The four things an edge can be, in their order of priority. -/
theorem edge_cases (e : EdgeInput) (s : State) :
    (e.rst = true ∧ edge e s = .next (resetEdge s)) ∨
      (e.rst = false ∧ s.busy = true ∧ edge e s = .next (permRoundStep s)) ∨
      (e.rst = false ∧ s.busy = false ∧ e.cmdValid = true ∧
        edge e s = exec (decode e.command) s) ∨
      (e.rst = false ∧ s.busy = false ∧ e.cmdValid = false ∧ edge e s = .next (idleEdge s)) := by
  cases h1 : e.rst <;> cases h2 : s.busy <;> cases h3 : e.cmdValid <;> simp [edge, h1, h2, h3]

@[simp] theorem nextInput_cons (s : State) (e : EdgeInput) (es : List EdgeInput)
    (h : s.inputs = e :: es) : s.nextInput = e := by
  simp [State.nextInput, h]

@[simp] theorem nextInput_offerNext (s : State) (c : Command) :
    (s.offerNext c).nextInput = EdgeInput.offer c := rfl

/-! ## Rotation -/

/-- An amount counts modulo 64 (40_rotation.md R101). -/
theorem rotl64_mod (x : Word) (n : Nat) : rotl64 x (n % 64) = rotl64 x n := by
  simp [rotl64]

/-- Bit `k` of the result is bit `(k + 64 - n mod 64) mod 64` of the operand. -/
theorem getLsbD_rotl64 (x : Word) (n k : Nat) (hk : k < 64) :
    (rotl64 x n).getLsbD k = x.getLsbD ((k + (64 - n % 64)) % 64) := by
  unfold rotl64
  rw [BitVec.getLsbD_rotateLeft]
  have h : n % 64 < 64 := Nat.mod_lt _ (by decide)
  rw [Nat.mod_mod]
  by_cases hlt : k < n % 64
  · have : (k + (64 - n % 64)) % 64 = 64 - n % 64 + k := by omega
    simp [this, hlt]
  · have : (k + (64 - n % 64)) % 64 = k - n % 64 := by omega
    simp [this, hlt, hk]

/-! ## The word array -/

/-- Reading the word just written. -/
theorem wordAt_setWordAt_same (S : WordArray) (i j : Nat) (v : Word) (h : i % 8 = j % 8) :
    wordAt (setWordAt S i v) j = v := by
  simp [wordAt, setWordAt, h]

/-- Writing one word leaves every other word alone. -/
theorem wordAt_setWordAt_ne (S : WordArray) (i j : Nat) (v : Word) (h : i % 8 ≠ j % 8) :
    wordAt (setWordAt S i v) j = wordAt S j := by
  simp [wordAt, setWordAt, h]

/-- Two word arrays are equal when they agree on every index. -/
theorem wordArray_ext (S T : WordArray) (h : ∀ i < 8, wordAt S i = wordAt T i) : S = T := by
  apply Vector.ext
  intro i hi
  have := h i hi
  simpa [wordAt, Nat.mod_eq_of_lt hi] using this

/-- Word `i` after constant injection (41_round_layers.md R120). -/
theorem wordAt_cinj (cfg : Config) (S : WordArray) (r : Fin 16) (i : Nat) :
    wordAt (cinj cfg S r) i =
      if i % 8 = (3 * r.val) % 8 then wordAt S i ^^^ cfg.rc[r] else wordAt S i := by
  unfold cinj
  by_cases h : i % 8 = (3 * r.val) % 8
  · rw [if_pos h, wordAt_setWordAt_same _ _ _ _ h.symm]
    simp [wordAt, h]
  · rw [if_neg h, wordAt_setWordAt_ne _ _ _ _ (Ne.symm h)]

/-- Word `i` after intra-word diffusion (41_round_layers.md R129). -/
theorem wordAt_mds (cfg : Config) (S : WordArray) (r : Fin 16) (i : Nat) :
    wordAt (mds cfg S r) i = mdsWord cfg.mdsForm (wordAt S i) r := by
  simp [mds, wordAt]

/-- Word `i` after global mixing (41_round_layers.md R132). -/
theorem wordAt_gmix (S : WordArray) (r : Fin 16) (i : Nat) :
    wordAt (gmix S r) i =
      wordAt S i ^^^ wordAt S (i + mixOffset1 r) ^^^ wordAt S (i + mixOffset2 r) := by
  simp [gmix, wordAt]

/-! ## The host's input list -/

/-- Reading through the ports what was offered on them. -/
@[simp] theorem command_offer (c : Command) : (EdgeInput.offer c).command = c := by
  ext k hk
  simp only [EdgeInput.offer, EdgeInput.command, mkCommand, Command.op, Command.idx, Command.data]
  simp
  grind

end Sys2Proof.Machine.Laws
end

