-- ==== Sys2Proof/Laws/PerInstr.lean ====
section
/-! SUPPORT. A statement about every command as syntax, one lemma per constructor. -/

namespace Sys2Proof.Laws.Legality

open Sys2Proof.Machine.Laws

/-- The decode procedure of 30_encoding.md R79, run on the command's own word, rejects it exactly when
the command is not well-formed (R73, R78). -/
def Statement (i : Instr) : Prop := rejectOf (encode i) = none ↔ i.wellFormed = true

theorem nop (idx : BitVec 4) : Statement (.nop idx) := by
  simp [Statement, rejectOf, encode, Instr.op, Instr.idx, classOf, Instr.wellFormed,
    Instr.idxClass, IdxClass.allows]

theorem ldw (idx : BitVec 4) (data : Word) : Statement (.ldw idx data) := by
  simp [Statement, rejectOf, encode, Instr.op, Instr.idx, classOf, Instr.wellFormed,
    Instr.idxClass, IdxClass.allows]

theorem rdw (idx : BitVec 4) : Statement (.rdw idx) := by
  simp [Statement, rejectOf, encode, Instr.op, Instr.idx, classOf, Instr.wellFormed,
    Instr.idxClass, IdxClass.allows]

theorem perm (idx : BitVec 4) : Statement (.perm idx) := by
  simp [Statement, rejectOf, encode, Instr.op, Instr.idx, classOf, Instr.wellFormed,
    Instr.idxClass, IdxClass.allows]

theorem rnd (r : BitVec 4) : Statement (.rnd r) := by
  simp [Statement, rejectOf, encode, Instr.op, classOf, Instr.wellFormed, Instr.idxClass,
    IdxClass.allows]

theorem cinj (r : BitVec 4) : Statement (.cinj r) := by
  simp [Statement, rejectOf, encode, Instr.op, classOf, Instr.wellFormed, Instr.idxClass,
    IdxClass.allows]

theorem arx (r : BitVec 4) : Statement (.arx r) := by
  simp [Statement, rejectOf, encode, Instr.op, classOf, Instr.wellFormed, Instr.idxClass,
    IdxClass.allows]

theorem mds (r : BitVec 4) : Statement (.mds r) := by
  simp [Statement, rejectOf, encode, Instr.op, classOf, Instr.wellFormed, Instr.idxClass,
    IdxClass.allows]

theorem gmix (r : BitVec 4) : Statement (.gmix r) := by
  simp [Statement, rejectOf, encode, Instr.op, classOf, Instr.wellFormed, Instr.idxClass,
    IdxClass.allows]

theorem rotw (idx : BitVec 4) (data : Word) : Statement (.rotw idx data) := by
  simp [Statement, rejectOf, encode, Instr.op, Instr.idx, classOf, Instr.wellFormed,
    Instr.idxClass, IdxClass.allows]

theorem rdrc (r : BitVec 4) : Statement (.rdrc r) := by
  simp [Statement, rejectOf, encode, Instr.op, classOf, Instr.wellFormed, Instr.idxClass,
    IdxClass.allows]

theorem rdrot (r : BitVec 4) : Statement (.rdrot r) := by
  simp [Statement, rejectOf, encode, Instr.op, classOf, Instr.wellFormed, Instr.idxClass,
    IdxClass.allows]

theorem rdstat (idx : BitVec 4) : Statement (.rdstat idx) := by
  simp [Statement, rejectOf, encode, Instr.op, Instr.idx, classOf, Instr.wellFormed,
    Instr.idxClass, IdxClass.allows]

theorem clrerr (idx : BitVec 4) : Statement (.clrerr idx) := by
  simp [Statement, rejectOf, encode, Instr.op, Instr.idx, classOf, Instr.wellFormed,
    Instr.idxClass, IdxClass.allows]

theorem reservedE (idx : BitVec 4) : Statement (.reservedE idx) := by
  simp [Statement, rejectOf, encode, Instr.op, Instr.wellFormed, Instr.idxClass, IdxClass.allows]

theorem reservedF (idx : BitVec 4) : Statement (.reservedF idx) := by
  simp [Statement, rejectOf, encode, Instr.op, Instr.wellFormed, Instr.idxClass, IdxClass.allows]

end Sys2Proof.Laws.Legality
end

