-- ==== Sys2Proof/Laws/Run.lean ====
section
/-! SUPPORT. Runs of several edges: how a run is made of its steps, and how one induction over a run
carries a property of every step. -/

namespace Sys2Proof.Machine.Laws

/-- A run of no edge. -/
@[simp] theorem run_zero (s : State) : run 0 s = .next s := rfl

/-- A run whose first step answers a next state goes on from there. -/
theorem run_succ_of_next (k : Nat) (s t : State) (h : step s = .next t) :
    run (k + 1) s = run k t := by
  simp only [run, h]

/-- The first step of a run that answers a next state. -/
theorem run_succ_next (k : Nat) (s u : State) (h : run (k + 1) s = .next u) :
    ∃ t : State, step s = .next t ∧ run k t = .next u := by
  simp only [run] at h
  split at h
  · exact ⟨_, ‹_›, h⟩
  · cases h
  · cases h

/-- A run of `a + b` edges is a run of `b` edges from where a run of `a` edges ends. -/
theorem run_add_of_next (a b : Nat) (s t : State) (h : run a s = .next t) :
    run (a + b) s = run b t := by
  induction a generalizing s with
  | zero =>
    obtain rfl : s = t := by simpa using h
    rw [Nat.zero_add]
  | succ a ih =>
    obtain ⟨u, hu, hrun⟩ := run_succ_next a s t h
    rw [Nat.succ_add, run_succ_of_next _ _ _ hu]
    exact ih u hrun

/-- A property that every step keeps holds at the end of every run it holds at the start of. -/
theorem run_keeps (P : State → Prop) (hstep : ∀ s t : State, P s → step s = .next t → P t)
    (k : Nat) (s t : State) (hs : P s) (h : run k s = .next t) : P t := by
  induction k generalizing s with
  | zero =>
    obtain rfl : s = t := by simpa using h
    exact hs
  | succ k ih =>
    obtain ⟨u, hu, hrun⟩ := run_succ_next k s t h
    exact ih u (hstep s u hs hu) hrun

/-- A run of any core whose first step answers a next state goes on from there. -/
theorem core_run_succ_of_next (M : Host.Core) (k : Nat) (s t : M.State) (h : M.step s = .next t) :
    M.run (k + 1) s = M.run k t := by
  simp only [Host.Core.run, h]

/-- A run of any core whose first step is refused is refused. -/
theorem core_run_succ_of_refused (M : Host.Core) (k : Nat) (s : M.State) (r : M.Refusal)
    (h : M.step s = .refused r) : M.run (k + 1) s = .refused r := by
  simp only [Host.Core.run, h]

/-- The model's run is the run of the host's interface. -/
theorem run_eq_core_run (k : Nat) (s : State) : run k s = Host.Core.run Sys2Proof.core k s := by
  induction k generalizing s with
  | zero => rfl
  | succ k ih =>
    cases h : step s with
    | next t =>
      rw [run_succ_of_next k s t h, ih t]
      exact (core_run_succ_of_next Sys2Proof.core k s t h).symm
    | fault r => cases r
    | refused r =>
      rw [run, h]
      exact (core_run_succ_of_refused Sys2Proof.core k s r h).symm

/-- The step at an edge that samples the inputs `e`. -/
theorem step_of_inputs (s : State) (e : EdgeInput) (es : List EdgeInput) (h : s.inputs = e :: es) :
    step s = edge e s.sampled := by
  rw [step, nextInput_cons s e es h]

end Sys2Proof.Machine.Laws
end

