-- ==== Sys2Proof/Tests/Slice0.lean ====
section
/-! SUPPORT. Tests on single steps, decodings written out from the spec's encodings, and a witness for
the hypotheses of each statement. Expected values come from spec/95_test_vectors.md and from the rules'
own examples; the vectors' tables T1 are that file's invention and not the reference tables. -/

namespace Sys2Proof.Machine.Tests

/-! ## Small states -/

/-- The test tables T1 (95_test_vectors.md section 1), with round count `n` and form `form`. -/
def t1 (n : RoundCount) (form : MdsForm) : Config where
  nrounds := n
  rc := Vector.ofFn fun r => BitVec.ofNat 64 (0x9E3779B97F4A7C15 * (r.val + 1))
  rot1 := Vector.ofFn fun r => ⟨(5 * r.val + 13) % 64, Nat.mod_lt _ (by decide)⟩
  rot2 := Vector.ofFn fun r => ⟨(7 * r.val + 17) % 64, Nat.mod_lt _ (by decide)⟩
  rot3 := Vector.ofFn fun r => ⟨(11 * r.val + 31) % 64, Nat.mod_lt _ (by decide)⟩
  rot4 := Vector.ofFn fun r => ⟨(13 * r.val + 47) % 64, Nat.mod_lt _ (by decide)⟩
  mdsForm := form

/-- T1 with the reference round count and the default form. -/
def t1Par : Config := t1 ⟨4, by decide, by decide⟩ .parallel

/-- T1 with the reference round count and the CHAINED form. -/
def t1Cha : Config := t1 ⟨4, by decide, by decide⟩ .chained

/-- T1 with one round. -/
def t1One : Config := t1 ⟨1, by decide, by decide⟩ .parallel

/-- The start state SI (95_test_vectors.md section 1). -/
def si : WordArray := #v[0x0123456789ABCDEF, 0xFEDCBA9876543210, 0x0F1E2D3C4B5A6978,
  0x8796A5B4C3D2E1F0, 0x1111111111111111, 0x2222222222222222, 0x4444444444444444,
  0x8888888888888888]

/-- A state after reset in build `cfg`, its words loaded. -/
def loaded (cfg : Config) (S : WordArray) : State := { State.resetOf cfg with S := S }

/-- The state a command leaves, where it leaves one. -/
def after (i : Instr) (s : State) : Option State :=
  match exec i s with
  | .next t => some t
  | .fault _ => none
  | .refused _ => none

/-- The state a step leaves, where it leaves one. -/
def afterStep (s : State) : Option State :=
  match step s with
  | .next t => some t
  | .fault _ => none
  | .refused _ => none

/-- The state with `e` on the ports at its next edge. -/
def at' (s : State) (e : EdgeInput) : State := { s with inputs := [e] }

/-- An edge with `rst` = 1 that also offers NOP. -/
def rstInput : EdgeInput := ⟨true, true, 0, 0, 0⟩

/-- A state in the middle of a PERM, before the round step of index `k`. -/
def midPerm (k : BitVec 5) : State := { loaded t1Par zeroWords with busy := true, rcnt := k }

/-! ## Well-formedness: an ill-formed command for each check -/

theorem test_illFormed_classZ : (Instr.nop 1).wellFormed = false := by decide
theorem test_illFormed_perm : (Instr.perm 15).wellFormed = false := by decide
theorem test_illFormed_classW : (Instr.ldw 8 0).wellFormed = false := by decide
theorem test_illFormed_rotw : (Instr.rotw 15 0).wellFormed = false := by decide
theorem test_illFormed_reserved : (Instr.reservedE 0).wellFormed = false := by decide
theorem test_wellFormed_boundary :
    (Instr.rdw 7).wellFormed = true ∧ (Instr.rdrc 15).wellFormed = true ∧
      (Instr.rdstat 0).wellFormed = true := by decide
theorem test_build_zero_refused : RoundCount.elaborate 0 = none := by decide
theorem test_build_seventeen_refused : RoundCount.elaborate 17 = none := by decide

/-! ## Decoding, one word for each constructor (30_encoding.md R72; 95_test_vectors.md 2.8 and 5) -/

theorem test_decode_nop : decode 0x000000000000000000 = .nop 0 := by decide
theorem test_decode_ldw : decode 0x130123456789ABCDEF = .ldw 3 0x0123456789ABCDEF := by decide
theorem test_decode_rdw : decode 0x230000000000000000 = .rdw 3 := by decide
theorem test_decode_perm : decode 0x300000000000000000 = .perm 0 := by decide
theorem test_decode_rnd : decode 0x4F0000000000000000 = .rnd 15 := by decide
theorem test_decode_cinj : decode 0x51FFFFFFFFFFFFFFFF = .cinj 1 := by decide
theorem test_decode_arx : decode 0x6F0000000000000000 = .arx 15 := by decide
theorem test_decode_mds : decode 0x700000000000000000 = .mds 0 := by decide
theorem test_decode_gmix : decode 0x800000000000000000 = .gmix 0 := by decide
theorem test_decode_rotw : decode 0x90FFFFFFFFFFFFFFC4 = .rotw 0 0xFFFFFFFFFFFFFFC4 := by decide
theorem test_decode_rdrc : decode 0xA70000000000000000 = .rdrc 7 := by decide
theorem test_decode_rdrot : decode 0xB30000000000000000 = .rdrot 3 := by decide
theorem test_decode_rdstat : decode 0xC00000000000000000 = .rdstat 0 := by decide
theorem test_decode_clrerr : decode 0xD00000000000000000 = .clrerr 0 := by decide
theorem test_decode_reservedE : decode 0xE50000000000001234 = .reservedE 5 := by decide
theorem test_decode_reservedF : decode 0xFF0000000000000000 = .reservedF 15 := by decide
theorem test_decodeLegal_rejects :
    rejectOf 0x010000000000000000 = some .badIndex ∧
      rejectOf 0x180000000000000000 = some .badIndex ∧
      rejectOf 0xE00000000000000000 = some .illegalOpcode ∧
      rejectOf 0x970000000000000000 = none := by decide
theorem test_encode_ldw : encode (.ldw 3 0x0123456789ABCDEF) = 0x130123456789ABCDEF := by decide
theorem test_encode_clrerr : encode (.clrerr 0) = 0xD00000000000000000 := by decide
theorem test_decodeTableWord :
    decodeTableWord 72 0x4F0000000000000000 = some (.rnd 15) ∧
      decodeTableWord 72 0xF00000000000000000 = some (.reservedF 0) ∧
      decodeTableWord 72 0x310000000000000000 = none := by decide

/-! ## The commands -/

/-- 43_host_transfer.md R190: an accepted NOP leaves the whole state unchanged. -/
theorem test_nop : (after (.nop 0) (loaded t1Par si)).map (·.S) = some si := by decide

/-- 95_test_vectors.md 2.7: `STATUS` after a BAD_INDEX from reset. -/
theorem test_nop_badIndex :
    (after (.nop 1) (State.resetOf t1Par)).map (·.status) = some 0x0000000000040024 := by decide

/-- 43_host_transfer.md R191. -/
theorem test_ldw : (after (.ldw 3 0x0123456789ABCDEF) (State.resetOf t1Par)).map (·.S) =
    some #v[0, 0, 0, 0x0123456789ABCDEF, 0, 0, 0, 0] := by decide

theorem test_ldw_badIndex : (after (.ldw 8 5) (loaded t1Par si)).map
    (fun t => (t.S, t.ecause)) = some (si, 2) := by decide

/-- 43_host_transfer.md R192. -/
theorem test_rdw : (after (.rdw 7) (loaded t1Par si)).map
    (fun t => (t.rspValid, t.rspData, t.responses)) =
      some (true, 0x8888888888888888, [0x8888888888888888]) := by decide

/-- 95_test_vectors.md P3: `28`, an RDW with idx 8, gives no response. -/
theorem test_rdw_badIndex : (after (.rdw 8) (State.resetOf t1Par)).map
    (fun t => (t.rspValid, t.responses, t.status)) =
      some (false, [], 0x0000000000040024) := by decide

/-- 95_test_vectors.md 2.7. -/
theorem test_rdrc : (after (.rdrc 15) (State.resetOf t1Par)).map (·.rspData) =
    some 0xE3779B97F4A7C150 := by decide

/-- 95_test_vectors.md section 1: round 3 has `ROT3` = 0. -/
theorem test_rdrot : (after (.rdrot 3) (State.resetOf t1Par)).map (·.rspData) =
    some 0x000000000058099C := by decide

theorem test_rdrot_last : (after (.rdrot 15) (State.resetOf t1Par)).map (·.rspData) =
    some 0x0000000000C84E98 := by decide

/-- 43_host_transfer.md R195. -/
theorem test_rdstat : (after (.rdstat 0) State.reset).map (·.rspData) =
    some 0x0000000000040000 := by decide

/-- 43_host_transfer.md R196: a CLRERR with a reserved idx does not clear, and keeps the first cause. -/
theorem test_clrerr_badIndex :
    (after (.clrerr 8) { State.resetOf t1Par with err := true, ecause := 1 }).map (·.status) =
      some 0x0000000000040014 := by decide

theorem test_clrerr :
    (after (.clrerr 0) { State.resetOf t1Par with err := true, ecause := 2 }).map (·.status) =
      some 0x0000000000040000 := by decide

/-- 95_test_vectors.md 2.7: `STATUS` after an ILLEGAL_OPCODE from reset. -/
theorem test_reservedE : (after (.reservedE 5) (State.resetOf t1Par)).map (·.status) =
    some 0x0000000000040014 := by decide

/-- 95_test_vectors.md 2.7: BAD_INDEX, then ILLEGAL_OPCODE: the first cause is kept. -/
theorem test_reservedF_second :
    (after (.reservedF 0) { State.resetOf t1Par with err := true, ecause := 2 }).map
      (·.status) = some 0x0000000000040024 := by decide

/-- 40_rotation.md R105. -/
theorem test_rotw : (after (.rotw 0 13) (loaded t1Par si)).map (fun t => t.word 0) =
    some 0x68ACF13579BDE024 := by decide

/-- 95_test_vectors.md 2.1: a 64-bit amount counts by its bits 5:0. -/
theorem test_rotw_wide : (after (.rotw 0 0xFFFFFFFFFFFFFFC4) (loaded t1Par si)).map
    (fun t => t.word 0) = some 0x123456789ABCDEF0 := by decide

/-- 95_test_vectors.md 2.2: CINJ 15 on Z. -/
theorem test_cinj : (after (.cinj 15) (State.resetOf t1Par)).map (·.S) =
    some #v[0, 0, 0, 0, 0, 0xE3779B97F4A7C150, 0, 0] := by decide

/-- 95_test_vectors.md 2.3: ARX 3 on SI. -/
theorem test_arx : (after (.arx 3) (loaded t1Par si)).map (·.S) =
    some #v[0x3442F7B382B0BFDF, 0xA22D76FCA7083768, 0x61B2D7C175EAA9D8, 0xC295883D0DE09365,
      0x26AEA953E18C0506, 0x4444444444444443, 0xCCCCCCCCCD0CCCCC, 0x28AFB84F3A15510F] := by
  decide

/-- 95_test_vectors.md 2.4: MDS 0 on SI, PARALLEL. -/
theorem test_mds_parallel : (after (.mds 0) (loaded t1Par si)).map (·.S) =
    some #v[0x74DEFD47ED4764DE, 0x74DEFD47ED4764DE, 0xAAFFEE33663322FF, 0x336677AAFFAABB66,
      0x3333333333333333, 0x6666666666666666, 0xCCCCCCCCCCCCCCCC, 0x9999999999999999] := by
  decide

/-- 95_test_vectors.md 2.4: MDS 0 on SI, CHAINED. -/
theorem test_mds_chained : (after (.mds 0) (loaded t1Cha si)).map (·.S) =
    some #v[0xCBDAF9BC34250643, 0xCBDAF9BC34250643, 0x5159C86AAEA63795, 0xAEA637955159C86A,
      0xFFFFFFFFFFFFFFFF, 0xFFFFFFFFFFFFFFFF, 0xFFFFFFFFFFFFFFFF, 0xFFFFFFFFFFFFFFFF] := by
  decide

/-- 95_test_vectors.md 2.5: GMIX 5 on the basis state. -/
theorem test_gmix : (after (.gmix 5) (loaded t1Par #v[1, 2, 4, 8, 16, 32, 64, 128])).map (·.S) =
    some #v[0x0D, 0x1A, 0x34, 0x68, 0xD0, 0xA1, 0x43, 0x86] := by decide

/-- 95_test_vectors.md 2.5: GMIX 7 on SI moves the words. -/
theorem test_gmix_moves : (after (.gmix 7) (loaded t1Par si)).map (fun t => t.word 0) =
    some 0x8888888888888888 := by decide

/-- 95_test_vectors.md 2.5: RND 0 on SI. -/
theorem test_rnd : (after (.rnd 0) (loaded t1Par si)).map (·.S) =
    some #v[0x8B939D4A643510E2, 0x306AD82D751CE552, 0x1678A97ADD3AC1DC, 0xD4881E0B5219DEB3,
      0x5555555555555555, 0xAD81EC1DCC13346C, 0x0D6590A305C005C2, 0xF6E8C2F5DAA9B29A] := by
  decide

/-- 95_test_vectors.md 2.5: RND 9 on Z, a round index above `NROUNDS`. -/
theorem test_rnd_above : (after (.rnd 9) (State.resetOf t1Par)).map (·.S) =
    some #v[0x401BD2007516F77B, 0x32D893BB6E4EE7FA, 0, 0x401BD2007516F77B, 0x32D893BB6E4EE7FA,
      0x401BD2007516F77B, 0x32D893BB6E4EE7FA, 0] := by decide

/-- 95_test_vectors.md 2.7: `STATUS` in the cycle after PERM is accepted. -/
theorem test_perm_accepted : (after (.perm 0) (State.resetOf t1Par)).map (·.status) =
    some 0x0000000000040001 := by decide

/-- 95_test_vectors.md 2.8: `31` starts no PERM. -/
theorem test_perm_badIndex : (after (.perm 1) (State.resetOf t1Par)).map
    (fun t => (t.busy, t.status)) = some (false, 0x0000000000040024) := by decide

/-- 95_test_vectors.md section 4: `STATUS` after the third round step and after the last. -/
theorem test_round_step_third : (afterStep (midPerm 2)).map (·.status) =
    some 0x0000000000040301 := by decide

theorem test_round_step_last : (afterStep (midPerm 3)).map (·.status) =
    some 0x0000000000040402 := by decide

/-- 95_test_vectors.md section 4: with `NROUNDS` = 1 the first round step is the last. -/
theorem test_round_step_only :
    (afterStep { State.resetOf t1One with busy := true }).map (·.status) =
      some 0x0000000000010102 := by decide

/-- 95_test_vectors.md 2.6: `p0` of SI, PARALLEL. -/
theorem test_p0_parallel : p0 t1Par si =
    #v[0x850AA53CA70B9822, 0x829AE6878F233EEB, 0xCCF4ADC7FB1E7CCB, 0x73A333862340D9DF,
      0x603246FC564C798B, 0x5111E7CF66584214, 0x7542A2CEACBF7D35, 0x97947620BBFA4E5A] := by
  decide

/-- 95_test_vectors.md 2.6: `p0` of SI, CHAINED. -/
theorem test_p0_chained : p0 t1Cha si =
    #v[0x5F54768B44296DF6, 0x5A3B9C5E0EA3C8C6, 0x1544EDA5E36F1B8E, 0xDD86D5563C543484,
      0xB429B886906B9CC4, 0x56590B568700DA0F, 0xEAFF9DF10C3B7B35, 0x1ACCBE019A193ED4] := by
  decide

/-! ## Edges -/

/-- 70_reset_and_hazards.md R272: a reset in the middle of a PERM. -/
theorem test_reset_during_perm : (afterStep (at' { midPerm 2 with S := si } rstInput)).map
    (fun t => (t.S, t.status, t.cmdReady)) = some (zeroWords, 0x0000000000040000, true) := by
  decide

/-- 20_memory.md R52: a command offered while `BUSY` = 1 is not accepted. -/
theorem test_busy_ignores_offer :
    (afterStep (at' (midPerm 1) (EdgeInput.offer (encode (.ldw 0 7))))).map (·.status) =
      (afterStep (midPerm 1)).map (·.status) := by decide

/-- The host's placed command is the next one to run. -/
theorem test_withFetchWord :
    (afterStep (State.reset.withFetchWord 72 0x130123456789ABCDEF)).map (fun t => t.word 3) =
      some 0x0123456789ABCDEF := by decide

/-- 20_memory.md R67: a run that does not begin with a reset edge is refused. -/
theorem test_run_without_reset : runEdges t1Par [EdgeInput.idle] = .refused := by decide

/-- 20_memory.md R67: a run cut off in a PERM has not ended. -/
theorem test_run_cut_off :
    runEdges t1Par [rstInput, EdgeInput.offer (encode (.perm 0))] = .notEnded := by decide

/-! ## The assembler (30_encoding.md R80, R81) -/

theorem test_asm_ldw : parseLine "ldw s3, 0x0123456789ABCDEF ; load".toList =
    some (some (.command (.ldw 3 0x0123456789ABCDEF))) := by decide

theorem test_asm_raw : (parseLine ".raw E5:0000000000001234".toList).map
    (·.map (·.commands)) = some (some [0xE50000000000001234]) := by decide

theorem test_asm_no_word_eight : parseLine "RDW s8".toList = none := by decide

theorem test_asm_rotr : (AsmLine.rotr 0 13).instrs = [.rotw 0 51] := by decide

/-! ## Witnesses: for each statement with hypotheses, values that meet them, at the edges of their ranges -/

section Witnesses

open Sys2Proof.Machine.Claims

/-- An idle core, the host offering the command. -/
def idleOffer (i : Instr) : State := at' (State.resetOf t1Par) (EdgeInput.offer (encode i))

theorem accepts_idleOffer (i : Instr) :
    Accepts (EdgeInput.offer (encode i)) (idleOffer i) := ⟨rfl, rfl, rfl⟩

theorem witness_EncodeOfDecodeKeepsUsedBits :
    Command.op 0x10FFFFFFFFFFFFFFFF = 0x1#4 ∧ Command.op 0x97FFFFFFFFFFFFFFFF = 0x9#4 := by decide

theorem witness_UnusedDataBitsAreIgnored :
    (7 : Fin 8).val = (7#4).toNat ∧ (0x0#4 ≠ 0x1#4 ∧ 0x0#4 ≠ 0x9#4) ∧
      (0x0D : Word).extractLsb' 0 6 = (0xFFFFFFFFFFFFFFCD : Word).extractLsb' 0 6 := by decide

theorem witness_OpcodeTableRowsDecode :
    ∃ row ∈ opcodeTable, row.covers 0xFFFFFFFFFFFFFFFFFF = true :=
  ⟨⟨"reserved_0xF", 0xF00000000000000000, 0xF00000000000000000⟩, by decide, by decide⟩

theorem witness_classZ_idx : (0#4 = 0) ∧ (1#4 ≠ 0) ∧ (15#4 ≠ 0) := by decide

theorem witness_classW_idx :
    (0#4)[3] = false ∧ (7#4)[3] = false ∧ (8#4)[3] = true ∧ (15#4)[3] = true := by decide

theorem witness_NopOnlyEndsTheResponse : (0#4 = 0) ∧ (1#4 ≠ 0) ∧
    EdgeInput.idle.rst = false ∧ EdgeInput.idle.cmdValid = false := by decide

theorem witness_LdwLoadsTheNamedWord : (7#4)[3] = false ∧ (8#4)[3] = true := by decide

theorem witness_RdwRespondsTheNamedWord :
    (7 : Fin 8).val = (7#4).toNat ∧ (8#4)[3] = true ∧ (7#4)[3] = false ∧
      (midPerm 0).busy = true := by decide

theorem witness_RdstatRespondsTheOldStatus : (0#4 = 0) ∧ (15#4 ≠ 0) := by decide

theorem witness_ClrerrClearsTheError : (0#4 = 0) ∧ (8#4 ≠ 0) := by decide

theorem witness_RotationMovesEveryBit : 63 < 64 ∧ 64 % 64 = 0 ∧ 63 % 64 ≠ 0 := by decide

theorem witness_GmixDegenerateRoundsAndBijectivity :
    ((7 : Fin 16) = 7 ∨ (7 : Fin 16) = 15) ∧ 7 < 8 ∧ ((14 : Fin 16) = 6 ∨ (14 : Fin 16) = 14) := by
  decide

/-- A header for each branch: a reserved opcode, class Z and class W with a reserved `idx`, and a legal
one. -/
theorem witness_DecodeProcedureRaisesOrRuns :
    (0xE#4 = 0xE#4 ∨ 0xE#4 = 0xF#4) ∧ (0xD#4 ∈ [0x0#4, 0x3#4, 0xC#4, 0xD#4] ∧ 0x1#4 ≠ 0#4) ∧
      (0x9#4 ∈ [0x1#4, 0x2#4, 0x9#4] ∧ (0x8#4)[3] = true) ∧
      (decode (mkCommand 0x9 0x7 0)).wellFormed = true := by decide

theorem witness_RotationInverseLaw : 0 ≤ 64 ∧ 64 ≤ 64 := by decide

theorem witness_RotwRotatesTheNamedWord : (7#4)[3] = false ∧ (15#4)[3] = true := by decide

theorem witness_ArxSubStepOrderIsIrrelevant : [3, 1, 0, 2].Perm [0, 1, 2, 3] := by decide

theorem witness_ArxPairsCoverEveryWordOnce : (1 : Fin 16).val % 2 = (15 : Fin 16).val % 2 := by
  decide

theorem witness_MdsDiffusesEachWord :
    (loaded t1Par si).build.mdsForm = .parallel ∧ (loaded t1Cha si).build.mdsForm = .chained := by
  decide

theorem witness_RndAppliesTheFourLayers : (15 : Fin 16).val = (15#4).toNat := by decide

theorem witness_RndEqualsItsFourLayerCommands : (loaded t1Par si).busy = false := by decide

theorem witness_PermAcceptanceStartsTheSequencer : (0#4 = 0) ∧ (1#4 ≠ 0) := by decide

/-- The first round step and the last, with an offer on the ports. -/
theorem witness_BusyEdgeRunsOneRound :
    (∃ (s : State) (e : EdgeInput) (es : List EdgeInput), s.inputs = e :: es ∧ e.rst = false ∧
      s.busy = true ∧ s.rcnt.toNat = (0 : Fin 16).val) ∧
    ∃ (s : State) (e : EdgeInput) (es : List EdgeInput), s.inputs = e :: es ∧ e.rst = false ∧
      s.busy = true ∧ s.rcnt.toNat = (3 : Fin 16).val :=
  ⟨⟨at' (midPerm 0) EdgeInput.idle, _, _, rfl, by decide, by decide, by decide⟩,
    ⟨at' (midPerm 3) EdgeInput.idle, _, _, rfl, by decide, by decide, by decide⟩⟩

/-- A PERM left alone until it completes, and one reset before its last round step. -/
theorem witness_PermComputesP0 :
    (∃ (s : State) (data : Word) (es : List EdgeInput), s.busy = false ∧
      s.inputs = EdgeInput.offer (mkCommand 0x3 0 data) :: es ∧
      ∀ e ∈ es.take s.build.nrounds.val, e.rst = false) ∧
    ∃ (s : State) (data : Word) (es : List EdgeInput) (k : Nat) (e : EdgeInput),
      s.busy = false ∧ s.inputs = EdgeInput.offer (mkCommand 0x3 0 data) :: es ∧
      k < s.build.nrounds.val ∧ (∀ e ∈ es.take k, e.rst = false) ∧ es[k]? = some e ∧
      e.rst = true :=
  ⟨⟨{ loaded t1Par si with inputs := [EdgeInput.offer (mkCommand 0x3 0 7), EdgeInput.idle] },
      7, _, rfl, rfl, by decide⟩,
    ⟨{ loaded t1Par si with inputs := [EdgeInput.offer (mkCommand 0x3 0 0), EdgeInput.idle,
        EdgeInput.idle, EdgeInput.idle, rstInput] }, 0, _, 3, rstInput, rfl, rfl, by decide,
      by decide, by decide, by decide⟩⟩

theorem witness_RndSequenceComputesP0 : State.reset.busy = false := by decide

theorem witness_StepRunsTheOfferedCommand :
    ∃ (s : State) (e : EdgeInput) (es : List EdgeInput),
      s.inputs = e :: es ∧ e.rst = false ∧ s.busy = false ∧ e.cmdValid = true :=
  ⟨idleOffer (.rdw 0), _, _, rfl, rfl, rfl, rfl⟩

theorem witness_PlacedCommandRunsNext : 0xFFFFFFFFFFFFFFFFFF < 2 ^ 72 := by decide

/-- Every kind of edge: a reset in a PERM, a round step with a command offered, an accepted PERM and an
accepted NOP, an idle edge, and two different offers while `BUSY` = 1. -/
theorem witness_EdgePerformsExactlyOneAction :
    (∃ (s : State) (e : EdgeInput) (es : List EdgeInput), s.inputs = e :: es ∧ e.rst = true ∧
      s.busy = true) ∧
    (∃ (s : State) (e : EdgeInput) (es : List EdgeInput), s.inputs = e :: es ∧ e.rst = false ∧
      s.busy = true ∧ e.cmdValid = true) ∧
    (∃ (s : State) (e : EdgeInput) (es : List EdgeInput), s.inputs = e :: es ∧ Accepts e s) ∧
    (∃ (s : State) (e : EdgeInput) (es : List EdgeInput), s.inputs = e :: es ∧ e.rst = false ∧
      s.busy = false ∧ e.cmdValid = false) ∧
    ∃ (s : State) (e : EdgeInput) (es : List EdgeInput) (e' : EdgeInput), s.inputs = e :: es ∧
      e'.rst = e.rst ∧ ¬ Accepts e s ∧ ¬ Accepts e' s :=
  ⟨⟨at' (midPerm 2) rstInput, _, _, rfl, rfl, rfl⟩,
    ⟨at' (midPerm 2) (EdgeInput.offer (encode (.perm 0))), _, _, rfl, rfl, rfl, rfl⟩,
    ⟨idleOffer (.perm 0), _, _, rfl, accepts_idleOffer _⟩,
    ⟨at' State.reset EdgeInput.idle, _, _, rfl, rfl, rfl, rfl⟩,
    ⟨at' (midPerm 2) EdgeInput.idle, _, _, EdgeInput.offer (encode (.nop 0)), rfl, rfl,
      fun h => by simpa [midPerm, at'] using h.2.1, fun h => by simpa [midPerm, at'] using h.2.1⟩⟩

theorem witness_ResetEdgeLoadsResetValues :
    ∃ (s : State) (e : EdgeInput) (es : List EdgeInput), s.inputs = e :: es ∧ e.rst = true :=
  ⟨at' (midPerm 2) rstInput, _, _, rfl, rfl⟩

/-- One edge of each kind; an accepted legal LDW, and an accepted LDW with a reserved `idx`. -/
theorem witness_DoneFollowsItsRule :
    (∃ (s : State) (e : EdgeInput) (es : List EdgeInput), s.inputs = e :: es ∧ e.rst = true) ∧
    (∃ (s : State) (e : EdgeInput) (es : List EdgeInput), s.inputs = e :: es ∧ e.rst = false ∧
      s.busy = true ∧ s.rcnt.toNat + 1 = s.build.nrounds.val) ∧
    (∃ (s : State) (e : EdgeInput) (es : List EdgeInput), s.inputs = e :: es ∧ Accepts e s ∧
      changesState (decode e.command) = true ∧ (decode e.command).wellFormed = true) ∧
    (∃ (s : State) (e : EdgeInput) (es : List EdgeInput), s.inputs = e :: es ∧ Accepts e s ∧
      changesState (decode e.command) = true ∧ (decode e.command).wellFormed = false) ∧
    ∃ (s : State) (e : EdgeInput) (es : List EdgeInput), s.inputs = e :: es ∧ e.rst = false ∧
      s.busy = false ∧ e.cmdValid = false :=
  ⟨⟨at' (midPerm 2) rstInput, _, _, rfl, rfl⟩,
    ⟨at' (midPerm 3) EdgeInput.idle, _, _, rfl, rfl, rfl, by decide⟩,
    ⟨idleOffer (.ldw 7 1), _, _, rfl, accepts_idleOffer _, by decide, by decide⟩,
    ⟨idleOffer (.ldw 8 1), _, _, rfl, accepts_idleOffer _, by decide, by decide⟩,
    ⟨at' State.reset EdgeInput.idle, _, _, rfl, rfl, rfl, rfl⟩⟩

/-- A reset, a legal CLRERR, a first and a second error, and an edge that writes neither register. -/
theorem witness_ErrorRegistersFollowTheirRule :
    (∃ (s : State) (e : EdgeInput) (es : List EdgeInput), s.inputs = e :: es ∧ e.rst = true) ∧
    (∃ (s : State) (e : EdgeInput) (es : List EdgeInput), s.inputs = e :: es ∧ Accepts e s ∧
      decode e.command = .clrerr 0) ∧
    (∃ (s : State) (e : EdgeInput) (es : List EdgeInput), s.inputs = e :: es ∧ Accepts e s ∧
      (decode e.command).wellFormed = false ∧ s.err = false) ∧
    (∃ (s : State) (e : EdgeInput) (es : List EdgeInput), s.inputs = e :: es ∧ Accepts e s ∧
      (decode e.command).wellFormed = false ∧ s.err = true) ∧
    ∃ (s : State) (e : EdgeInput) (es : List EdgeInput), s.inputs = e :: es ∧ e.rst = false ∧
      ¬ (Accepts e s ∧ ((decode e.command).wellFormed = false ∨ decode e.command = .clrerr 0)) :=
  ⟨⟨at' (midPerm 2) rstInput, _, _, rfl, rfl⟩,
    ⟨idleOffer (.clrerr 0), _, _, rfl, accepts_idleOffer _, by decide⟩,
    ⟨idleOffer (.reservedE 15), _, _, rfl, accepts_idleOffer _, by decide, by decide⟩,
    ⟨{ idleOffer (.clrerr 8) with err := true, ecause := 1 }, _, _, rfl, ⟨rfl, rfl, rfl⟩,
      by decide, by decide⟩,
    ⟨at' (midPerm 2) (EdgeInput.offer (encode (.clrerr 0))), _, _, rfl, rfl,
      fun h => by simpa [midPerm, at'] using h.1.2.1⟩⟩

theorem witness_SequencerRegistersFollowTheirRule :
    (∃ (s : State) (e : EdgeInput) (es : List EdgeInput), s.inputs = e :: es ∧ e.rst = true) ∧
    (∃ (s : State) (e : EdgeInput) (es : List EdgeInput), s.inputs = e :: es ∧ Accepts e s ∧
      decode e.command = .perm 0) ∧
    (∃ (s : State) (e : EdgeInput) (es : List EdgeInput), s.inputs = e :: es ∧ e.rst = false ∧
      s.busy = true) ∧
    ∃ (s : State) (e : EdgeInput) (es : List EdgeInput), s.inputs = e :: es ∧ e.rst = false ∧
      s.busy = false ∧ ¬ (Accepts e s ∧ decode e.command = .perm 0) :=
  ⟨⟨at' (midPerm 2) rstInput, _, _, rfl, rfl⟩,
    ⟨idleOffer (.perm 0), _, _, rfl, accepts_idleOffer _, by decide⟩,
    ⟨at' (midPerm 0) EdgeInput.idle, _, _, rfl, rfl, rfl⟩,
    ⟨idleOffer (.perm 1), _, _, rfl, rfl, rfl, fun h => absurd h.2 (by decide)⟩⟩

/-- A legal command of each kind the clauses name, and one with a reserved `idx`. -/
theorem witness_CommandsTouchOnlyTheirWords :
    (∃ t, exec (.ldw 8 5) (loaded t1Par si) = .next t) ∧ (Instr.ldw 8 5).wellFormed = false ∧
      (∃ t, exec (.rdw 7) (loaded t1Par si) = .next t) ∧
      (∃ t, exec (.rotw 7 13) (loaded t1Par si) = .next t) ∧ (0 : Fin 8).val ≠ (7#4).toNat ∧
      (∃ t, exec (.cinj 15) (loaded t1Par si) = .next t) ∧
      (0 : Fin 8).val ≠ (3 * (15#4).toNat) % 8 :=
  ⟨⟨_, rfl⟩, by decide, ⟨_, rfl⟩, ⟨_, rfl⟩, by decide, ⟨_, rfl⟩, by decide⟩

/-- An edge that shows a response, and one that does not. -/
theorem witness_ResponsesComeFromLegalReads :
    (∃ (s : State) (e : EdgeInput) (es : List EdgeInput), s.inputs = e :: es ∧ Accepts e s ∧
      reads (decode e.command) = true ∧ (decode e.command).wellFormed = true) ∧
    ∃ (s : State) (e : EdgeInput) (es : List EdgeInput), s.inputs = e :: es ∧ Accepts e s ∧
      reads (decode e.command) = true ∧ (decode e.command).wellFormed = false :=
  ⟨⟨idleOffer (.rdrot 15), _, _, rfl, accepts_idleOffer _, by decide, by decide⟩,
    ⟨idleOffer (.rdstat 1), _, _, rfl, accepts_idleOffer _, by decide, by decide⟩⟩

/-- Two states in the middle of a PERM, and two idle ones after a read, with other state words, other
answers and another `rsp_data`. -/
theorem witness_ControlDoesNotDependOnData :
    DifferOnlyInData (midPerm 3) { midPerm 3 with S := si, rspData := 7 } ∧
      DifferOnlyInData { idleOffer (.rdw 7) with rspValid := true, rspData := 1, responses := [1] }
        { idleOffer (.rdw 7) with S := si, rspValid := true, rspData := 2, responses := [2] } ∧
      si ≠ zeroWords :=
  ⟨⟨rfl, ⟨rfl, rfl, rfl, rfl⟩, ⟨rfl, rfl⟩, rfl, rfl, rfl⟩,
    ⟨rfl, ⟨rfl, rfl, rfl, rfl⟩, ⟨rfl, rfl⟩, rfl, rfl, rfl⟩, by decide⟩

theorem witness_NoRunWritesTheBuild : ∃ t : State, Machine.run 1 (midPerm 3) = .next t := ⟨_, rfl⟩

/-- A state in the middle of a PERM, before its last round step, meets the invariant and steps. -/
theorem witness_StepKeepsTheInvariant :
    (midPerm 3).Inv ∧ ∃ t, step (midPerm 3) = .next t :=
  ⟨⟨by decide, by decide, by decide, by decide, by decide, by decide, by decide, by decide⟩,
    ⟨_, rfl⟩⟩

theorem witness_RunsBeginWithResetAndEndIdle :
    EdgeInput.idle.rst = false ∧ rstInput.rst = true ∧
      ∃ o, runEdges t1Par [rstInput] = .ended o :=
  ⟨rfl, rfl, ⟨_, rfl⟩⟩

theorem witness_LoadStateThenReadStateAnswersIt : (loaded t1Par zeroWords).busy = false := by decide

theorem witness_RotrUndoesRotw : (loaded t1Par si).busy = false := by decide

end Witnesses

end Sys2Proof.Machine.Tests
end

section

namespace Sys2Proof

/-! What elaborating a build answers, once per outcome (00_scope.md R6). -/

namespace RoundCount

/-- A build is refused exactly when its round count is outside the range R6 allows. -/
theorem elaborate_eq_none_iff (n : Nat) : elaborate n = none ↔ n = 0 ∨ 16 < n := by
  have outside : ¬(1 ≤ n ∧ n ≤ 16) ↔ n = 0 ∨ 16 < n := by omega
  simp [elaborate, ← outside]

/-- Every round count of the model elaborates, to itself: its own bounds are the check's. -/
@[simp] theorem elaborate_val (c : RoundCount) : elaborate c.val = some c :=
  dif_pos ⟨c.one_le, c.le_sixteen⟩

/-- A build that elaborates keeps the round count that was asked for. -/
theorem val_of_elaborate_eq_some {n : Nat} {c : RoundCount} (h : elaborate n = some c) :
    c.val = n := by
  unfold elaborate at h
  split at h
  · obtain rfl := Option.some.inj h
    rfl
  · contradiction

theorem elaborate_eq_some_iff (n : Nat) (c : RoundCount) : elaborate n = some c ↔ c.val = n where
  mp := val_of_elaborate_eq_some
  mpr := by rintro rfl; exact elaborate_val c

end RoundCount

namespace Machine

/-- Settles O56, from the two outcomes of `RoundCount.elaborate`. -/
theorem onlyRoundCounts1To16Elaborate : Obligations.OnlyRoundCounts1To16Elaborate :=
  ⟨RoundCount.elaborate_eq_none_iff, RoundCount.elaborate_eq_some_iff⟩

end Machine

end Sys2Proof
end

section

/-! What an accepted command and an edge can do to the state, each said once: proofs about every
command or every edge split on these cases instead of unfolding `exec` and `step`. -/

namespace Sys2Proof.Machine

open Machine.Laws Machine.Claims

/-! ## Accepted commands -/

/-- The error that a command with an illegal header raises (30_encoding.md R76, R77). -/
def errorOf (i : Instr) : InterfaceError :=
  if i.idxClass = .reserved then .illegalOpcode else .badIndex

/-- Accepting the command `i` in the state `s` may leave the state `t`. -/
inductive Effect (s : State) (i : Instr) : State → Prop
  /-- An illegal header raises its error. -/
  | raises (illegal : i.wellFormed = false) : Effect s i (raiseError (errorOf i) s)
  /-- A legal state-changing command that completes in its edge writes the state array. -/
  | changes (v : WordArray) (legal : i.wellFormed = true) (changing : changesState i = true)
      (notPerm : ∀ x, i ≠ .perm x) : Effect s i (s.setWords v).changed
  /-- A legal PERM starts the sequencer. -/
  | starts (isPerm : i = .perm 0) : Effect s i (startPerm s)
  /-- A legal read responds. -/
  | responds (v : Word) (legal : i.wellFormed = true) (reading : reads i = true) :
      Effect s i (s.respond v)
  /-- A legal NOP ends the response. -/
  | nops (isNop : i = .nop 0) : Effect s i s.noResponse
  /-- A legal CLRERR clears the error. -/
  | clears (isClrerr : i = .clrerr 0) : Effect s i (clearError s)

theorem wellFormed_classZ {i : Instr} (h : i.idxClass = .Z) :
    i.wellFormed = true ↔ i.idx = 0#4 := by
  simp [Instr.wellFormed, h, IdxClass.allows]

theorem wellFormed_classW {i : Instr} (h : i.idxClass = .W) :
    i.wellFormed = true ↔ i.idx[3] = false := by
  simp [Instr.wellFormed, h, IdxClass.allows]

theorem wellFormed_classR {i : Instr} (h : i.idxClass = .R) : i.wellFormed = true := by
  simp [Instr.wellFormed, h, IdxClass.allows]

theorem illFormed_reserved {i : Instr} (h : i.idxClass = .reserved) : i.wellFormed = false := by
  simp [Instr.wellFormed, h, IdxClass.allows]

/-- A reserved `idx` raises BAD_INDEX, so only the legal form of a class Z command is left to show. -/
theorem effect_classZ {s t : State} {i : Instr} (hclass : i.idxClass = .Z)
    (legal : i.idx = 0#4 → Effect s i t) : Effect s i (classZ i.idx s t) := by
  obtain ⟨hidx, heq⟩ | ⟨hidx, heq⟩ := classZ_cases i.idx s t
  · rw [heq]
    exact legal hidx
  · have illegal : i.wellFormed = false := by
      rwa [← Bool.not_eq_true, wellFormed_classZ hclass]
    simpa [heq, errorOf, hclass] using Effect.raises (s := s) illegal

/-- As `effect_classZ`, for a command of class W. -/
theorem effect_classW {s : State} {i : Instr} {f : Fin 8 → State} (hclass : i.idxClass = .W)
    (legal : i.wellFormed = true → ∀ w, Effect s i (f w)) : Effect s i (classW i.idx s f) := by
  obtain ⟨hidx, heq⟩ | ⟨hidx, heq⟩ := classW_cases i.idx s f
  · rw [heq]
    exact legal ((wellFormed_classW hclass).2 hidx) _
  · have illegal : i.wellFormed = false := by
      rw [← Bool.not_eq_true, wellFormed_classW hclass, hidx]
      decide
    simpa [heq, errorOf, hclass] using Effect.raises (s := s) illegal

/-- The reserved opcodes raise ILLEGAL_OPCODE. -/
theorem effect_reserved {s : State} {i : Instr} (hclass : i.idxClass = .reserved) :
    Effect s i (raiseError .illegalOpcode s) := by
  simpa [errorOf, hclass] using Effect.raises (s := s) (illFormed_reserved hclass)

/-- Every command answers a next state, which is one of its effects. -/
theorem exec_effect (i : Instr) (s : State) : ∃ t, exec i s = .next t ∧ Effect s i t := by
  cases i with
  | nop idx => exact ⟨_, rfl, effect_classZ (i := .nop idx) rfl fun h => .nops (congrArg _ h)⟩
  | perm idx => exact ⟨_, rfl, effect_classZ (i := .perm idx) rfl fun h => .starts (congrArg _ h)⟩
  | clrerr idx =>
    exact ⟨_, rfl, effect_classZ (i := .clrerr idx) rfl fun h => .clears (congrArg _ h)⟩
  | rdstat idx =>
    exact ⟨_, rfl, effect_classZ (i := .rdstat idx) rfl fun h =>
      .responds _ ((wellFormed_classZ rfl).2 h) rfl⟩
  | ldw idx d =>
    exact ⟨_, rfl, effect_classW (i := .ldw idx d) rfl fun h _ => .changes _ h rfl nofun⟩
  | rotw idx d =>
    exact ⟨_, rfl, effect_classW (i := .rotw idx d) rfl fun h _ => .changes _ h rfl nofun⟩
  | rdw idx => exact ⟨_, rfl, effect_classW (i := .rdw idx) rfl fun h _ => .responds _ h rfl⟩
  | rdrc | rdrot => exact ⟨_, rfl, .responds _ (wellFormed_classR rfl) rfl⟩
  | rnd | cinj | arx | mds | gmix => exact ⟨_, rfl, .changes _ (wellFormed_classR rfl) rfl nofun⟩
  | reservedE | reservedF => exact ⟨_, rfl, effect_reserved rfl⟩

/-- What a command that answers `t` did. -/
theorem effect_of_exec {i : Instr} {s t : State} (h : exec i s = .next t) : Effect s i t := by
  obtain ⟨u, hu, heff⟩ := exec_effect i s
  cases hu.symm.trans h
  exact heff

/-! ## Edges -/

/-- An edge with inputs `e` in the state `s` may leave the state `t` (20_memory.md R52). -/
inductive EdgeEffect (e : EdgeInput) (s : State) : State → Prop
  | resets (rst : e.rst = true) : EdgeEffect e s (resetEdge s)
  | rounds (noRst : e.rst = false) (busy : s.busy = true) : EdgeEffect e s (permRoundStep s)
  | accepts {t : State} (acc : Accepts e s) (eff : Effect s (decode e.command) t) :
      EdgeEffect e s t
  | idles (noRst : e.rst = false) (idle : s.busy = false) (noCmd : e.cmdValid = false) :
      EdgeEffect e s (idleEdge s)

/-- Every edge answers a next state, which is one of its effects. -/
theorem edge_effect (e : EdgeInput) (s : State) : ∃ t, edge e s = .next t ∧ EdgeEffect e s t := by
  obtain ⟨hr, heq⟩ | ⟨hr, hb, heq⟩ | ⟨hr, hb, hv, heq⟩ | ⟨hr, hb, hv, heq⟩ := edge_cases e s
  · exact ⟨_, heq, .resets hr⟩
  · exact ⟨_, heq, .rounds hr hb⟩
  · obtain ⟨t, ht, heff⟩ := exec_effect (decode e.command) s
    exact ⟨t, heq.trans ht, .accepts ⟨hr, hb, hv⟩ heff⟩
  · exact ⟨_, heq, .idles hr hb hv⟩

/-- A step is the edge with the host's next inputs. -/
theorem step_effect {s : State} {e : EdgeInput} {es : List EdgeInput} (h : s.inputs = e :: es) :
    ∃ t, step s = .next t ∧ EdgeEffect e s.sampled t := by
  rw [step_of_inputs s e es h]
  exact edge_effect e s.sampled

/-- What a step that answers `t` did, whatever inputs were left. -/
theorem edgeEffect_of_step {s t : State} (h : step s = .next t) :
    EdgeEffect s.nextInput s.sampled t := by
  obtain ⟨u, hu, heff⟩ := edge_effect s.nextInput s.sampled
  cases hu.symm.trans h
  exact heff

/-! ## The last round of a PERM -/

theorem lastRound_iff (s : State) :
    s.lastRound = true ↔ (s.rcnt + 1).toNat = s.build.nrounds.val := by
  simp [State.lastRound]

/-- A round count is at most 16, so the wrap of the five-bit sum never meets it. -/
theorem succ_rcnt_toNat_eq_nrounds_iff (s : State) :
    (s.rcnt + 1).toNat = s.build.nrounds.val ↔ s.rcnt.toNat + 1 = s.build.nrounds.val := by
  have h1 := s.build.nrounds.one_le
  have h16 := s.build.nrounds.le_sixteen
  have hr := s.rcnt.isLt
  rw [BitVec.toNat_add]
  change (s.rcnt.toNat + 1) % 32 = _ ↔ _
  omega

/-- A round step ends the PERM exactly when it brings `RCNT` to `NROUNDS` (42_round_driver.md R167). -/
theorem permRoundStep_busy_eq_false_iff {s : State} (busy : s.busy = true) :
    (permRoundStep s).busy = false ↔ (s.rcnt + 1).toNat = s.build.nrounds.val := by
  rw [permRoundStep_busy, ← lastRound_iff]
  cases s.lastRound <;> simp [busy]

theorem permRoundStep_done_eq (s : State) :
    (permRoundStep s).done = (s.done || decide (s.rcnt.toNat + 1 = s.build.nrounds.val)) := by
  rw [permRoundStep_done, Bool.decide_congr ((succ_rcnt_toNat_eq_nrounds_iff s).symm.trans
    (lastRound_iff s).symm), Bool.decide_eq_true]
  cases s.lastRound <;> simp

end Sys2Proof.Machine
end

section

/-! The invariant of 10_state.md R23 to R27 and R33: one lemma for each operation on the state. -/

namespace Sys2Proof.Machine

open Machine.Laws Machine.Claims

namespace State.Inv

theorem sampled {s : State} (h : s.Inv) : s.sampled.Inv := { h with }

theorem noResponse {s : State} (h : s.Inv) : s.noResponse.Inv :=
  { h with rsp_idle := nofun, rsp_trace := nofun }

theorem respond {s : State} (h : s.Inv) (idle : s.busy = false) (v : Word) : (s.respond v).Inv :=
  { h with
    rsp_idle := fun _ => idle
    rsp_trace := fun _ => List.getLast?_concat }

theorem setWords_changed {s : State} (h : s.Inv) (v : WordArray) : (s.setWords v).changed.Inv :=
  { h with
    done_idle := nofun
    rsp_idle := nofun
    rsp_trace := nofun }

theorem raiseError {s : State} (h : s.Inv) (e : InterfaceError) : (raiseError e s).Inv :=
  { h.noResponse with
    cause_none := nofun
    cause_some := fun _ => by
      rw [raiseError_ecause]
      split
      case isTrue herr => exact h.cause_some herr
      case isFalse => cases e <;> simp [causeCode] }

theorem clearError {s : State} (h : s.Inv) : (clearError s).Inv :=
  { h.noResponse with
    cause_none := fun _ => rfl
    cause_some := nofun }

theorem startPerm {s : State} (h : s.Inv) : (startPerm s).Inv :=
  { h with
    rcnt_le := Nat.zero_le _
    busy_rcnt := fun _ => s.build.nrounds.one_le
    idle_rcnt := nofun
    done_idle := nofun
    rsp_idle := nofun
    rsp_trace := nofun }

theorem resetEdge (s : State) : (resetEdge s).Inv where
  rcnt_le := Nat.zero_le _
  busy_rcnt := nofun
  idle_rcnt _ := .inl rfl
  done_idle := nofun
  cause_none _ := rfl
  cause_some := nofun
  rsp_idle := nofun
  rsp_trace := nofun

/-- A round step leaves `RCNT` below `NROUNDS`, or equal to it with `BUSY` = 0 and `DONE` = 1. -/
theorem permRoundStep {s : State} (h : s.Inv) (busy : s.busy = true) : (permRoundStep s).Inv := by
  have hlt : s.rcnt.toNat < s.build.nrounds.val := h.busy_rcnt busy
  have hle : (s.rcnt + 1).toNat ≤ s.build.nrounds.val := by
    rw [BitVec.toNat_add]
    exact (Nat.mod_le _ _).trans hlt
  have hidle := permRoundStep_busy_eq_false_iff busy
  have hdone (hd : (Machine.permRoundStep s).done = true) :
      (s.rcnt + 1).toNat = s.build.nrounds.val := by
    have notDone : s.done = false := by
      by_contra hs
      obtain ⟨idle, -⟩ := h.done_idle (by simpa using hs)
      exact absurd (busy.symm.trans idle) (by decide)
    rw [permRoundStep_done_eq, notDone, Bool.false_or, decide_eq_true_iff] at hd
    exact (succ_rcnt_toNat_eq_nrounds_iff s).2 hd
  exact { h.noResponse with
    rcnt_le := hle
    busy_rcnt := fun hb => lt_of_le_of_ne hle fun last =>
      absurd ((hidle.2 last).symm.trans hb) (by decide)
    idle_rcnt := fun hb => .inr (hidle.1 hb)
    done_idle := fun hd => ⟨hidle.2 (hdone hd), hdone hd⟩
    rsp_idle := nofun
    rsp_trace := nofun }

/-- Every effect of an accepted command keeps the invariant. -/
theorem effect {s t : State} {i : Instr} (h : s.Inv) (idle : s.busy = false)
    (heff : Effect s i t) : t.Inv := by
  cases heff with
  | raises => exact h.raiseError _
  | changes v => exact h.setWords_changed v
  | starts => exact h.startPerm
  | responds v => exact h.respond idle v
  | nops => exact h.noResponse
  | clears => exact h.clearError

/-- Every effect of an edge keeps the invariant. -/
theorem edgeEffect {s t : State} {e : EdgeInput} (h : s.Inv) (heff : EdgeEffect e s t) :
    t.Inv := by
  cases heff with
  | resets => exact resetEdge s
  | rounds _ busy => exact h.permRoundStep busy
  | accepts acc eff =>
    obtain ⟨-, idle, -⟩ := acc
    exact h.effect idle eff
  | idles => exact h.noResponse

theorem resetOf (cfg : Config) : (State.resetOf cfg).Inv := resetEdge (State.resetOf cfg)

end State.Inv

/-- Settles O54: taking the inputs keeps the invariant, and so does every kind of edge. -/
theorem stepKeepsTheInvariant : Obligations.StepKeepsTheInvariant :=
  fun _ _ h hstep => h.sampled.edgeEffect (edgeEffect_of_step hstep)

/-- Settles O55: the reset state of a build is a fixed point of the reset edge. -/
theorem resetMeetsTheInvariant : Obligations.ResetMeetsTheInvariant :=
  ⟨State.Inv.resetOf, State.Inv.resetOf Config.reference⟩

end Sys2Proof.Machine
end


section

/-! What the effects of commands and edges write of each register, and the rules of 10_state.md that
follow from it. -/

namespace Sys2Proof.Machine

open Machine.Laws Machine.Claims

/-! ## What a command writes -/

theorem changesState_of_reads {i : Instr} (h : reads i = true) : changesState i = false := by
  cases i with
  | rdw | rdrc | rdrot | rdstat => rfl
  | nop | ldw | rotw | cinj | arx | mds | gmix | rnd | perm | clrerr | reservedE | reservedF =>
    cases h

namespace Effect

variable {s t : State} {i : Instr}

theorem build (h : Effect s i t) : t.build = s.build := by
  cases h <;> rfl

theorem done (h : Effect s i t) :
    t.done = if changesState i && i.wellFormed then false else s.done := by
  cases h with
  | raises illegal => simp [illegal]
  | changes _ legal changing => simp [legal, changing]
  | responds _ _ reading => simp [changesState_of_reads reading]
  | starts isPerm => subst isPerm; rfl
  | nops isNop => subst isNop; rfl
  | clears isClrerr => subst isClrerr; rfl

theorem eq_raiseError (h : Effect s i t) (illegal : i.wellFormed = false) :
    t = raiseError (errorOf i) s := by
  cases h with
  | raises => rfl
  | changes _ legal | responds _ legal => simp [legal] at illegal
  | starts h | nops h | clears h => subst h; cases illegal

theorem eq_clearError (h : Effect s i t) (isClrerr : i = .clrerr 0) : t = clearError s := by
  subst isClrerr
  cases h with
  | clears => rfl
  | raises illegal => cases illegal
  | changes _ _ changing => cases changing
  | responds _ _ reading => cases reading
  | starts h | nops h => cases h

theorem eq_startPerm (h : Effect s i t) (isPerm : i = .perm 0) : t = startPerm s := by
  subst isPerm
  cases h with
  | starts => rfl
  | raises illegal => cases illegal
  | changes _ _ _ notPerm => exact absurd rfl (notPerm 0)
  | responds _ _ reading => cases reading
  | nops h | clears h => cases h

theorem keeps_error (h : Effect s i t) (legal : i.wellFormed = true) (notClrerr : i ≠ .clrerr 0) :
    t.err = s.err ∧ t.ecause = s.ecause := by
  cases h with
  | raises illegal => simp [legal] at illegal
  | clears isClrerr => exact absurd isClrerr notClrerr
  | changes | starts | responds | nops => exact ⟨rfl, rfl⟩

theorem keeps_sequencer (h : Effect s i t) (notPerm : i ≠ .perm 0) :
    t.busy = s.busy ∧ t.rcnt = s.rcnt := by
  cases h with
  | starts isPerm => exact absurd isPerm notPerm
  | raises | changes | responds | nops | clears => exact ⟨rfl, rfl⟩

theorem rspValid (h : Effect s i t) : t.rspValid = (reads i && i.wellFormed) := by
  cases h with
  | raises illegal => simp [illegal]
  | changes _ _ changing =>
    cases hr : reads i with
    | false => rfl
    | true => simp [changesState_of_reads hr] at changing
  | responds _ legal reading => simp [legal, reading]
  | starts h | nops h | clears h => subst h; rfl

/-- The trace grows by the response shown, and only by it. -/
theorem responses (h : Effect s i t) :
    t.responses = if t.rspValid then s.responses ++ [t.rspData] else s.responses := by
  cases h <;> rfl

/-- Only a legal state-changing command writes the array in its edge, and PERM does not. -/
theorem keeps_words (h : Effect s i t)
    (hi : i.wellFormed = false ∨ changesState i = false ∨ ∃ x, i = .perm x) : t.S = s.S := by
  cases h with
  | changes _ legal changing notPerm =>
    obtain illegal | unchanging | ⟨x, isPerm⟩ := hi
    · simp [legal] at illegal
    · simp [changing] at unchanging
    · exact absurd isPerm (notPerm x)
  | raises | starts | responds | nops | clears => rfl

end Effect

/-! ## What an edge writes -/

theorem decodeFields_idxClass (op idx : BitVec 4) (data : Word) :
    (decodeFields op idx data).idxClass = classOf op := by
  obtain ⟨n, hn⟩ := op
  interval_cases n <;> rfl

theorem classOf_eq_reserved_iff :
    ∀ op : BitVec 4, classOf op = .reserved ↔ op = 0xE#4 ∨ op = 0xF#4 := by
  decide

/-- The cause recorded is the one of 30_encoding.md R76 for the reserved opcodes, and that of R77
otherwise. -/
theorem causeCode_errorOf (e : EdgeInput) :
    causeCode (errorOf (decode e.command)) =
      if e.cmdOp = 0xE#4 ∨ e.cmdOp = 0xF#4 then 1#4 else 2#4 := by
  rw [errorOf, decode_command, decodeFields_idxClass]
  simp only [classOf_eq_reserved_iff]
  split <;> rfl

namespace EdgeEffect

variable {e : EdgeInput} {s t : State}

theorem build (h : EdgeEffect e s t) : t.build = s.build := by
  cases h with
  | accepts _ eff => exact eff.build
  | resets | rounds | idles => rfl

theorem done (h : EdgeEffect e s t) :
    (e.rst = true → t.done = false) ∧
      (e.rst = false → s.busy = true →
        t.done = (s.done || decide (s.rcnt.toNat + 1 = s.build.nrounds.val))) ∧
      (Accepts e s →
        t.done = (if changesState (decode e.command) && (decode e.command).wellFormed then false
          else s.done)) ∧
      (e.rst = false → s.busy = false → e.cmdValid = false → t.done = s.done) := by
  cases h with
  | resets rst => simp [rst, Accepts]
  | rounds noRst busy => simp [noRst, busy, Accepts, permRoundStep_done_eq, -permRoundStep_done]
  | accepts acc eff =>
    obtain ⟨noRst, idle, valid⟩ := acc
    simp [noRst, idle, valid, eff.done]
  | idles noRst idle noCmd => simp [noRst, idle, noCmd, Accepts]

theorem error (h : EdgeEffect e s t) :
    (e.rst = true → t.err = false ∧ t.ecause = 0) ∧
      (Accepts e s → decode e.command = .clrerr 0 → t.err = false ∧ t.ecause = 0) ∧
      (Accepts e s → (decode e.command).wellFormed = false →
        t.err = true ∧ (s.err = true → t.ecause = s.ecause) ∧
          (s.err = false → t.ecause =
            if e.cmdOp = 0xE#4 ∨ e.cmdOp = 0xF#4 then 1#4 else 2#4)) ∧
      (e.rst = false →
        ¬ (Accepts e s ∧
          ((decode e.command).wellFormed = false ∨ decode e.command = .clrerr 0)) →
        t.err = s.err ∧ t.ecause = s.ecause) := by
  cases h with
  | resets rst => simp [rst, Accepts]
  | rounds noRst busy => simp [noRst, busy, Accepts]
  | accepts acc eff =>
    have ⟨noRst, _, _⟩ := acc
    refine ⟨fun rst => ?_, fun _ isClrerr => ?_, fun _ illegal => ?_, fun _ neither => ?_⟩
    · simp [noRst] at rst
    · rw [eff.eq_clearError isClrerr]
      exact ⟨rfl, rfl⟩
    · rw [eff.eq_raiseError illegal, raiseError_ecause, causeCode_errorOf]
      exact ⟨rfl, fun err => if_pos err, fun noErr => if_neg (by simp [noErr])⟩
    · obtain ⟨legal, notClrerr⟩ := not_or.1 fun h => neither ⟨acc, h⟩
      exact eff.keeps_error (by simpa using legal) notClrerr
  | idles noRst idle noCmd => simp [noRst, noCmd, Accepts]

theorem sequencer (h : EdgeEffect e s t) :
    (e.rst = true → t.busy = false ∧ t.rcnt = 0) ∧
      (Accepts e s → decode e.command = .perm 0 → t.busy = true ∧ t.rcnt = 0) ∧
      (e.rst = false → s.busy = true → t.rcnt = s.rcnt + 1 ∧
        (t.busy = false ↔ (s.rcnt + 1).toNat = s.build.nrounds.val)) ∧
      (e.rst = false → s.busy = false → ¬ (Accepts e s ∧ decode e.command = .perm 0) →
        t.busy = false ∧ t.rcnt = s.rcnt) := by
  cases h with
  | resets rst => simp [rst, Accepts]
  | rounds noRst busy =>
    simp [noRst, busy, Accepts, permRoundStep_busy_eq_false_iff busy, -permRoundStep_busy]
  | accepts acc eff =>
    have ⟨noRst, idle, _⟩ := acc
    refine ⟨fun rst => ?_, fun _ isPerm => ?_, fun _ busy => ?_, fun _ _ notPerm => ?_⟩
    · simp [noRst] at rst
    · rw [eff.eq_startPerm isPerm]
      exact ⟨rfl, rfl⟩
    · simp [idle] at busy
    · rw [← idle]
      exact eff.keeps_sequencer fun isPerm => notPerm ⟨acc, isPerm⟩
  | idles noRst idle noCmd => simp [noRst, noCmd, idle, Accepts]

theorem response (h : EdgeEffect e s t) :
    (t.rspValid = true ↔ Accepts e s ∧ reads (decode e.command) = true ∧
        (decode e.command).wellFormed = true) ∧
      (t.rspValid = true → t.responses = s.responses ++ [t.rspData]) ∧
      (t.rspValid = false → t.responses = s.responses) := by
  cases h with
  | resets rst => simp [rst, Accepts]
  | rounds noRst busy => simp [busy, Accepts]
  | accepts acc eff =>
    refine ⟨?_, fun valid => ?_, fun noValid => ?_⟩
    · simp [acc, eff.rspValid]
    · rw [eff.responses, if_pos valid]
    · rw [eff.responses, noValid]
      rfl
  | idles noRst idle noCmd => simp [noCmd, Accepts]

end EdgeEffect

/-- Settles O46, from what each kind of edge does to `DONE`. -/
theorem doneFollowsItsRule : Obligations.DoneFollowsItsRule := fun _ _ _ hinputs =>
  let ⟨t, hstep, heff⟩ := step_effect hinputs
  ⟨t, hstep, heff.done⟩

/-- Settles O47, from what each kind of edge does to `ERR` and `ECAUSE`. -/
theorem errorRegistersFollowTheirRule : Obligations.ErrorRegistersFollowTheirRule :=
  fun _ _ _ hinputs =>
    let ⟨t, hstep, heff⟩ := step_effect hinputs
    ⟨t, hstep, heff.error⟩

/-- Settles O48, from what each kind of edge does to `BUSY` and `RCNT`. -/
theorem sequencerRegistersFollowTheirRule : Obligations.SequencerRegistersFollowTheirRule :=
  fun _ _ _ hinputs =>
    let ⟨t, hstep, heff⟩ := step_effect hinputs
    ⟨t, hstep, heff.sequencer⟩

/-- Settles O50, from what each kind of edge does to the response register and the trace. -/
theorem responsesComeFromLegalReads : Obligations.ResponsesComeFromLegalReads :=
  fun _ _ _ hinputs =>
    let ⟨t, hstep, heff⟩ := step_effect hinputs
    ⟨t, hstep, heff.response⟩

/-- Settles O51: no kind of edge writes the build, so no run of them does. -/
theorem noRunWritesTheBuild : Obligations.NoRunWritesTheBuild := fun k s t hrun =>
  run_keeps (fun u => u.build = s.build)
    (fun _ _ hbuild hstep => (edgeEffect_of_step hstep).build.trans hbuild) k s t rfl hrun

/-! ## The words of the state array -/

theorem wordIndex_val {idx : BitVec 4} (h : idx[3] = false) : (wordIndex idx).val = idx.toNat := by
  have below : ∀ x : BitVec 4, x[3] = false → x.toNat < 8 := by decide
  exact Nat.mod_eq_of_lt (below idx h)

/-- LDW and ROTW write the word they name, or no word (30_encoding.md R73). -/
theorem word_classW_setWord {idx : BitVec 4} {s : State} (f : Fin 8 → Word) {w : Fin 8}
    (other : w.val ≠ idx.toNat) :
    (classW idx s fun u => (s.setWord u (f u)).changed).word w = s.word w := by
  obtain ⟨hidx, heq⟩ | ⟨-, heq⟩ := classW_cases idx s fun u => (s.setWord u (f u)).changed
  · rw [← wordIndex_val hidx] at other
    rw [heq]
    exact Vector.getElem_set_ne (wordIndex idx).isLt w.isLt other.symm
  · rw [heq]
    rfl

theorem word_cinj_of_ne (s : State) {r : Fin 16} {w : Fin 8} (other : w.val ≠ (3 * r.val) % 8) :
    (s.setWords (cinj s.build s.S r)).changed.word w = s.word w := by
  have hw : w.val % 8 = w.val := Nat.mod_eq_of_lt w.isLt
  have hcinj := wordAt_cinj s.build s.S r w.val
  rw [if_neg (by rwa [hw])] at hcinj
  simpa [wordAt, State.word, hw] using hcinj

/-- Settles O49: the array is kept by all but the legal state-changing commands, and of those LDW, ROTW
and CINJ write one word. -/
theorem commandsTouchOnlyTheirWords : Obligations.CommandsTouchOnlyTheirWords := by
  intro i s t hexec
  have heff : Effect s i t := effect_of_exec hexec
  refine ⟨fun illegal => heff.keeps_words (.inl illegal), fun x hi => heff.keeps_words (.inr ?_),
    ?_, ?_⟩
  · by_cases isPerm : i = .perm x
    · exact .inr ⟨x, isPerm⟩
    · simp only [isPerm, false_or] at hi
      rcases hi with rfl | rfl | rfl | rfl | rfl | rfl | rfl | rfl <;> exact .inl rfl
  · rintro x d (rfl | rfl) w other
    · cases hexec
      exact word_classW_setWord (fun _ => d) other
    · cases hexec
      exact word_classW_setWord (fun u => rotl64 (s.word u) (rotAmount d)) other
  · rintro r rfl w other
    cases hexec
    exact word_cinj_of_ne s other

end Sys2Proof.Machine
end

section

/-! The layout of `STATUS` (10_state.md R28), and the values after reset (R37). -/

namespace Sys2Proof.Machine

open Machine.Laws Machine.Claims

/-- The fields of `STATUS`, the lowest first. -/
theorem getLsbD_status (s : State) (k : Nat) :
    s.status.getLsbD k =
      if k < 1 then s.busy
      else if k < 2 then s.done
      else if k < 3 then s.err
      else if k < 4 then false
      else if k < 8 then s.ecause.getLsbD (k - 4)
      else if k < 13 then s.rcnt.getLsbD (k - 8)
      else if k < 16 then false
      else (BitVec.ofNat 5 s.build.nrounds.val).getLsbD (k - 16) := by
  unfold State.status
  grind

theorem status_ecause (s : State) : s.status.extractLsb' 4 4 = s.ecause := by
  ext k hk
  grind [getLsbD_status]

theorem status_rcnt (s : State) : s.status.extractLsb' 8 5 = s.rcnt := by
  ext k hk
  grind [getLsbD_status]

theorem status_reserved_13 (s : State) : s.status.extractLsb' 13 3 = 0 := by
  ext k hk
  grind [getLsbD_status]

/-- The field of five bits holds every round count, which is at most 16. -/
theorem status_nrounds (s : State) :
    (s.status.extractLsb' 16 5).toNat = s.build.nrounds.val := by
  have field : s.status.extractLsb' 16 5 = BitVec.ofNat 5 s.build.nrounds.val := by
    ext k hk
    grind [getLsbD_status]
  have h16 := s.build.nrounds.le_sixteen
  rw [field, BitVec.toNat_ofNat, Nat.mod_eq_of_lt (by omega)]

theorem status_reserved_21 (s : State) : s.status.extractLsb' 21 43 = 0 := by
  ext k hk
  grind [getLsbD_status]

/-- After reset every field below `NROUNDS` is 0. -/
theorem resetOf_status (cfg : Config) :
    (State.resetOf cfg).status = BitVec.ofNat 64 cfg.nrounds.val <<< 16 := by
  have h16 := cfg.nrounds.le_sixteen
  apply BitVec.eq_of_toNat_eq
  simp only [State.status, resetOf_busy, resetOf_done, resetOf_err, resetOf_ecause, resetOf_rcnt,
    resetOf_build, BitVec.toNat_setWidth, BitVec.toNat_append]
  simp [Nat.shiftLeft_eq]
  omega

theorem exec_rdstat_zero (s : State) : exec (.rdstat 0) s = .next (s.respond s.status) := rfl

/-- Settles O45, field by field. -/
theorem statusRegisterLayout : Obligations.StatusRegisterLayout :=
  ⟨fun s => ⟨getLsbD_status s 0, getLsbD_status s 1, getLsbD_status s 2, getLsbD_status s 3,
      status_ecause s, status_rcnt s, status_reserved_13 s, status_nrounds s,
      status_reserved_21 s⟩,
    resetOf_status, fun s => ⟨_, exec_rdstat_zero s, rfl, rfl, rfl⟩⟩

theorem atReset_resetEdge (s : State) : AtReset (resetEdge s) := by
  have zero : ∀ w : Fin 8, zeroWords[w] = 0 := by decide
  exact ⟨zero, rfl, rfl, rfl, rfl, rfl, rfl, rfl⟩

/-- Settles O44: the reset state of a build is a fixed point of the reset edge. -/
theorem resetStateValues : Obligations.ResetStateValues :=
  ⟨fun cfg => ⟨atReset_resetEdge (State.resetOf cfg), rfl⟩,
    atReset_resetEdge (State.resetOf Config.reference)⟩

end Sys2Proof.Machine
end

section

/-! The edge rules of 20_memory.md R52: one equation of `edge` for each thing an edge can be. -/

namespace Sys2Proof.Machine

open Machine.Laws Machine.Claims

/-! ## One equation for each kind of edge -/

section Edge

variable {e e' : EdgeInput} {s : State}

theorem edge_of_rst (rst : e.rst = true) : edge e s = .next (resetEdge s) := by
  simp [edge, rst]

theorem edge_of_busy (noRst : e.rst = false) (busy : s.busy = true) :
    edge e s = .next (permRoundStep s) := by
  simp [edge, noRst, busy]

theorem edge_of_accepts (acc : Accepts e s) : edge e s = exec (decode e.command) s := by
  obtain ⟨noRst, idle, valid⟩ := acc
  simp [edge, noRst, idle, valid]

theorem edge_of_no_command (noRst : e.rst = false) (idle : s.busy = false)
    (noCmd : e.cmdValid = false) : edge e s = .next (idleEdge s) := by
  simp [edge, noRst, idle, noCmd]

/-- At an edge that accepts no command only `rst` is looked at: what the host offers has no effect. -/
theorem edge_congr_of_not_accepts (hrst : e'.rst = e.rst) (hacc : ¬ Accepts e s)
    (hacc' : ¬ Accepts e' s) : edge e' s = edge e s := by
  cases rst : e.rst with
  | true => rw [edge_of_rst rst, edge_of_rst (hrst.trans rst)]
  | false =>
    cases busy : s.busy with
    | true => rw [edge_of_busy rst busy, edge_of_busy (hrst.trans rst) busy]
    | false =>
      have noCmd : e.cmdValid = false := by simpa [Accepts, rst, busy] using hacc
      have noCmd' : e'.cmdValid = false := by simpa [Accepts, hrst, rst, busy] using hacc'
      rw [edge_of_no_command rst busy noCmd, edge_of_no_command (hrst.trans rst) busy noCmd']

end Edge

theorem sampled_of_inputs {s : State} {e : EdgeInput} {es : List EdgeInput}
    (h : s.inputs = e :: es) : s.sampled = { s with inputs := es } := by
  rw [State.sampled, h, List.tail_cons]

/-- A step is the edge of its inputs, on the state that holds the inputs after them. -/
theorem step_eq_edge {s : State} {e : EdgeInput} {es : List EdgeInput} (h : s.inputs = e :: es) :
    step s = edge e { s with inputs := es } := by
  rw [step_of_inputs s e es h, sampled_of_inputs h]

/-- Settles O40, by the equation of an accepting edge. -/
theorem stepRunsTheOfferedCommand : Obligations.StepRunsTheOfferedCommand :=
  fun _ _ _ hinputs noRst idle valid =>
    (step_eq_edge hinputs).trans (edge_of_accepts ⟨noRst, idle, valid⟩)

theorem step_offerNext (s : State) (c : Command) :
    step (s.offerNext c) = exec (decode c) { s with busy := false } := by
  have acc : Accepts (EdgeInput.offer c) { s with busy := false } := ⟨rfl, rfl, rfl⟩
  rw [step_eq_edge (offerNext_inputs s c)]
  exact (edge_of_accepts acc).trans (by rw [command_offer])

/-- Settles O41: a word of 72 bits is placed as it is, and the next edge accepts it. -/
theorem placedCommandRunsNext : Obligations.PlacedCommandRunsNext := by
  intro s w hw
  rw [State.withFetchWord, Nat.mod_eq_of_lt hw, step_offerNext]

/-! ## The fields of a decoded command -/

@[simp] theorem decodeFields_op (op idx : BitVec 4) (data : Word) :
    (decodeFields op idx data).op = op := by
  obtain ⟨n, hn⟩ := op
  interval_cases n <;> rfl

@[simp] theorem decodeFields_idx (op idx : BitVec 4) (data : Word) :
    (decodeFields op idx data).idx = idx := by
  obtain ⟨n, hn⟩ := op
  interval_cases n <;> rfl

theorem decodeFields_eq_perm_iff {op idx x : BitVec 4} {data : Word} :
    decodeFields op idx data = .perm x ↔ op = 0x3#4 ∧ idx = x := by
  constructor
  · intro h
    have hop := decodeFields_op op idx data
    have hidx := decodeFields_idx op idx data
    rw [h] at hop hidx
    exact ⟨hop.symm, hidx.symm⟩
  · rintro ⟨rfl, rfl⟩
    rfl

/-! ## Every edge does exactly one thing -/

theorem sameButUnspecified_refl (s : State) : SameButUnspecified s s :=
  ⟨rfl, rfl, ⟨rfl, rfl, rfl, rfl⟩, ⟨rfl, rfl⟩, rfl, fun _ => rfl, rfl⟩

/-- Of the commands accepted in IDLE only a legal PERM leaves `BUSY` = 1. -/
theorem Effect.busy_iff {s t : State} {i : Instr} (h : Effect s i t) (idle : s.busy = false) :
    t.busy = true ↔ i = .perm 0 := by
  constructor
  · intro busy
    by_contra notPerm
    obtain ⟨keeps, -⟩ := h.keeps_sequencer notPerm
    rw [keeps, idle] at busy
    cases busy
  · intro isPerm
    rw [h.eq_startPerm isPerm, startPerm_busy]

/-- An accepted command answers a next state, with `BUSY` = 1 only after a legal PERM. -/
theorem edge_of_accepts_busy_iff {e : EdgeInput} {s : State} (acc : Accepts e s) :
    ∃ t, edge e s = .next t ∧ (t.busy = true ↔ e.cmdOp = 0x3#4 ∧ e.cmdIdx = 0#4) := by
  have ⟨_, idle, _⟩ := acc
  obtain ⟨t, ht, heff⟩ := exec_effect (decode e.command) s
  refine ⟨t, (edge_of_accepts acc).trans ht, ?_⟩
  rw [heff.busy_iff idle, decode_command, decodeFields_eq_perm_iff]
  rfl

/-- Settles O42: an equation of `edge` for each kind of edge, and for an offer that is not accepted the
edges of the two offers are the same. -/
theorem edgePerformsExactlyOneAction : Obligations.EdgePerformsExactlyOneAction := by
  intro s e es hinputs
  have hstep : step s = edge e { s with inputs := es } := step_eq_edge hinputs
  refine ⟨fun rst => ?_, fun noRst busy => ?_, fun acc => ⟨?_, ?_⟩, fun noRst idle noCmd => ?_,
    fun e' hrst hacc hacc' => ?_⟩
  · exact ⟨_, hstep.trans (edge_of_rst rst), atReset_resetEdge _, rfl, rfl⟩
  · exact hstep.trans (edge_of_busy noRst busy)
  · exact hstep.trans (edge_of_accepts acc)
  · rw [hstep]
    exact edge_of_accepts_busy_iff acc
  · exact ⟨_, hstep.trans (edge_of_no_command noRst idle noCmd),
      rfl, rfl, ⟨rfl, rfl, rfl, rfl⟩, rfl, rfl, rfl, rfl⟩
  · obtain ⟨t, ht, -⟩ := edge_effect e { s with inputs := es }
    have hstep' : step { s with inputs := e' :: es } = edge e' { s with inputs := es } :=
      step_eq_edge rfl
    have same : edge e' { s with inputs := es } = edge e { s with inputs := es } :=
      edge_congr_of_not_accepts hrst hacc hacc'
    exact ⟨t, t, hstep.trans ht, hstep'.trans (same.trans ht), sameButUnspecified_refl t⟩

end Sys2Proof.Machine
end

section

/-! What a run answers (20_memory.md R67, 70_reset_and_hazards.md R273). -/

namespace Sys2Proof.Machine

open Machine.Laws Machine.Claims

/-- Every step answers a next state, so every run does. -/
theorem run_answers (k : Nat) (s : State) : ∃ t, run k s = .next t := by
  induction k generalizing s with
  | zero => exact ⟨s, run_zero s⟩
  | succ k ih =>
    obtain ⟨u, hu, -⟩ := edge_effect s.nextInput s.sampled
    obtain ⟨t, ht⟩ := ih u
    exact ⟨t, (run_succ_of_next k s u hu).trans ht⟩

/-- A state seen as the end of a run is an ended run exactly in IDLE. -/
theorem State.result_eq_ended_iff (s : State) (o : Observation) :
    s.result = .ended o ↔ s.busy = false ∧ ⟨s.responses, s.record⟩ = o := by
  cases h : s.busy <;> simp [State.result, h]

theorem State.result_ne_refused (s : State) : s.result ≠ .refused := by
  cases h : s.busy <;> simp [State.result, h]

theorem runEdges_of_not_rst (cfg : Config) {e : EdgeInput} (es : List EdgeInput)
    (noRst : e.rst = false) : runEdges cfg (e :: es) = .refused := by
  simp [runEdges, noRst]

/-- A sequence that begins with a reset edge ends in some state, and is that state's result. -/
theorem runEdges_of_rst (cfg : Config) {e : EdgeInput} (es : List EdgeInput) (rst : e.rst = true) :
    ∃ t : State, runEdges cfg (e :: es) = t.result := by
  obtain ⟨t, ht⟩ := run_answers es.length { State.resetOf cfg with inputs := es }
  exact ⟨t, by rw [runEdges, if_pos rst, ht, resultOf]⟩

/-- An ended run is the result of some state: it began with a reset edge. -/
theorem exists_result_of_runEdges_ended {cfg : Config} {es : List EdgeInput} {o : Observation}
    (h : runEdges cfg es = .ended o) : ∃ t : State, t.result = .ended o := by
  cases es with
  | nil => cases h
  | cons e es =>
    cases rst : e.rst with
    | true =>
      obtain ⟨t, ht⟩ := runEdges_of_rst cfg es rst
      exact ⟨t, ht.symm.trans h⟩
    | false =>
      rw [runEdges_of_not_rst cfg es rst] at h
      cases h

/-- Settles O57: what a run answers is the result of the state it reaches. -/
theorem runsBeginWithResetAndEndIdle : Obligations.RunsBeginWithResetAndEndIdle := by
  refine ⟨fun cfg _ es noRst => runEdges_of_not_rst cfg es noRst, fun cfg es o hended => ?_,
    fun cfg e es rst => ?_⟩
  · obtain ⟨t, ht⟩ := exists_result_of_runEdges_ended hended
    obtain ⟨idle, rfl⟩ := (t.result_eq_ended_iff o).1 ht
    exact idle
  · obtain ⟨t, ht⟩ := runEdges_of_rst cfg es rst
    rw [ht]
    exact t.result_ne_refused

end Sys2Proof.Machine
end

section

/-! Fields, words and the data operand of 30_encoding.md (R70 to R75, R80). -/

namespace Sys2Proof.Machine

open Machine.Laws Machine.Claims

/-! ## Fields and words (R70) -/

/-- A word is its three fields. -/
theorem mkCommand_fields (c : Command) : mkCommand c.op c.idx c.data = c := by
  ext k hk
  simp only [mkCommand, Command.op, Command.idx, Command.data]
  grind

/-- The header of a word does not depend on its data. -/
theorem header_mkCommand (op idx : BitVec 4) (data : Word) :
    (mkCommand op idx data).extractLsb' 64 8 = op ++ idx := by
  ext k hk
  simp only [mkCommand]
  grind

theorem mkCommand_inj {op op' idx idx' : BitVec 4} {data data' : Word} :
    mkCommand op idx data = mkCommand op' idx' data' ↔ op = op' ∧ idx = idx' ∧ data = data' := by
  constructor
  · intro h
    exact ⟨by simpa using congrArg Command.op h, by simpa using congrArg Command.idx h,
      by simpa using congrArg Command.data h⟩
  · rintro ⟨rfl, rfl, rfl⟩
    rfl

/-- A mask acts on each field by itself. -/
theorem mkCommand_and (op op' idx idx' : BitVec 4) (data data' : Word) :
    mkCommand op idx data &&& mkCommand op' idx' data' =
      mkCommand (op &&& op') (idx &&& idx') (data &&& data') :=
  BitVec.and_append.trans (congrArg (· ++ _) BitVec.and_append)

@[simp] theorem decode_mkCommand (op idx : BitVec 4) (data : Word) :
    decode (mkCommand op idx data) = decodeFields op idx data := by
  simp [decode]

/-! ## Decoding and encoding (R72, R74, R80) -/

/-- The opcode of each command leads back to its own constructor. -/
theorem decodeFields_fields (i : Instr) : decodeFields i.op i.idx i.data = i := by
  cases i <;> rfl

/-- Settles O1: the word of a command holds its three fields, and these decode to it. -/
theorem decodeOfEncodeIsIdentity : Obligations.DecodeOfEncodeIsIdentity := by
  intro i
  rw [encode, decode_mkCommand, decodeFields_fields]

/-- Encoding a decoded word keeps `op` and `idx`; `data` is what the command carries of it. -/
theorem encode_decode (c : Command) :
    encode (decode c) = mkCommand c.op c.idx (decode c).data := by
  simp only [encode, decode, decodeFields_op, decodeFields_idx]

/-- LDW and ROTW carry all 64 bits of `data`. -/
theorem decodeFields_data {op : BitVec 4} (h : op = 0x1#4 ∨ op = 0x9#4) (idx : BitVec 4)
    (data : Word) : (decodeFields op idx data).data = data := by
  obtain rfl | rfl := h <;> rfl

/-- Settles O2: only the data of a command that does not carry it is lost. -/
theorem encodeOfDecodeKeepsUsedBits : Obligations.EncodeOfDecodeKeepsUsedBits := by
  refine fun c => ⟨?_, decodeOfEncodeIsIdentity _, fun carries => ?_⟩
  · rw [encode_decode, header_mkCommand, ← header_mkCommand c.op c.idx c.data, mkCommand_fields]
  · rw [encode_decode, decode, decodeFields_data carries, mkCommand_fields]

/-! ## The data operand (R74, R75) -/

/-- Every command but LDW and ROTW drops `data`. -/
theorem decodeFields_congr_data {op : BitVec 4} (notLdw : op ≠ 0x1#4) (notRotw : op ≠ 0x9#4)
    (idx : BitVec 4) (d d' : Word) : decodeFields op idx d = decodeFields op idx d' := by
  obtain ⟨n, hn⟩ := op
  interval_cases n
  on_goal 10 => exact absurd rfl notRotw
  on_goal 2 => exact absurd rfl notLdw
  all_goals rfl

theorem rotAmount_eq_toNat (d : Word) : rotAmount d = (d.extractLsb' 0 6).toNat := by
  simp [rotAmount]

theorem getElem_three_of_lt : ∀ idx : BitVec 4, idx.toNat < 8 → idx[3] = false := by decide

/-- An `idx` that is a word number names that word. -/
theorem classW_of_eq_toNat {idx : BitVec 4} {w : Fin 8} (h : w.val = idx.toNat) (s : State)
    (f : Fin 8 → State) : classW idx s f = f w := by
  have legal : idx[3] = false := getElem_three_of_lt idx (h ▸ w.isLt)
  have named : wordIndex idx = w := Fin.ext ((wordIndex_val legal).trans h.symm)
  rw [classW, legal, named]
  rfl

theorem word_setWord_same (s : State) (w : Fin 8) (v : Word) : (s.setWord w v).word w = v :=
  Vector.getElem_set_self w.isLt

/-- Amounts with the same low six bits are the same to ROTW. -/
theorem exec_rotw_congr {d d' : Word} (low : d.extractLsb' 0 6 = d'.extractLsb' 0 6)
    (idx : BitVec 4) (s : State) : exec (.rotw idx d) s = exec (.rotw idx d') s := by
  have amount : rotAmount d = rotAmount d' := by
    rw [rotAmount_eq_toNat, rotAmount_eq_toNat, low]
  change execRotw idx d s = execRotw idx d' s
  rw [execRotw, execRotw, amount]

/-- Settles O3, by the decoder for the commands that drop `data`, and by the amount for ROTW. -/
theorem unusedDataBitsAreIgnored : Obligations.UnusedDataBitsAreIgnored := by
  intro op idx d d' s
  simp only [decode_mkCommand]
  refine ⟨fun w named => ⟨_, rfl, ?_⟩, fun notLdw notRotw =>
    decodeFields_congr_data notLdw notRotw idx d d', fun low => ?_⟩
  · rw [classW_of_eq_toNat named]
    exact word_setWord_same s w d
  · obtain ⟨t, ht, -⟩ := exec_effect (.rotw idx d) s
    exact ⟨t, t, ht, (exec_rotw_congr low.symm idx s).trans ht, sameButUnspecified_refl t⟩

end Sys2Proof.Machine
end

section

/-! The rows of spec/opcode_table.json against the decoder, and the counts of 30_encoding.md R78. -/

namespace Sys2Proof.Machine

open Machine.Laws Machine.Claims

/-- A word matches a row when each of its fields does. -/
theorem covers_iff_fields (row : OpRow) (c : Command) :
    row.covers c = true ↔ c.op &&& row.mask.op = row.pat.op ∧
      c.idx &&& row.mask.idx = row.pat.idx ∧ c.data &&& row.mask.data = row.pat.data := by
  rw [← mkCommand_inj, ← mkCommand_and]
  simp only [mkCommand_fields, OpRow.covers, beq_iff_eq]

/-- Every row fixes all of `op` and none of `data`. -/
theorem opcodeTable_masks : ∀ row ∈ opcodeTable,
    row.mask.op = BitVec.allOnes 4 ∧ row.mask.data = 0 ∧ row.pat.data = 0 := by
  decide

theorem covers_iff {row : OpRow} (h : row ∈ opcodeTable) (c : Command) :
    row.covers c = true ↔ row.pat.op = c.op ∧ c.idx &&& row.mask.idx = row.pat.idx := by
  obtain ⟨hop, hmask, hpat⟩ := opcodeTable_masks row h
  rw [covers_iff_fields, hop, hmask, hpat, BitVec.and_allOnes, eq_comm (a := c.op)]
  simp

/-- The mnemonic is fixed by `op`. -/
theorem decodeFields_mnemonic (op idx : BitVec 4) (data : Word) :
    (decodeFields op idx data).mnemonic = (decodeFields op 0 0).mnemonic := by
  obtain ⟨n, hn⟩ := op
  interval_cases n <;> rfl

theorem opcodeTable_mnemonic : ∀ row ∈ opcodeTable,
    (decodeFields row.pat.op 0 0).mnemonic = row.mnemonic := by
  decide

/-- Settles O4: the `op` of the word is the row's, and the row's `op` decodes to its mnemonic. -/
theorem opcodeTableRowsDecode : Obligations.OpcodeTableRowsDecode := by
  intro row hrow c hcovers
  obtain ⟨hop, -⟩ := (covers_iff hrow c).1 hcovers
  rw [decode, decodeFields_mnemonic, ← hop, opcodeTable_mnemonic row hrow]

/-- Each opcode has one row, and that row leaves out the `idx` values its class reserves (R73). -/
theorem opcodeTable_row (op : BitVec 4) :
    ∃ row, opcodeTable.filter (fun row => row.pat.op == op) = [row] ∧
      ∀ idx, idx &&& row.mask.idx = row.pat.idx ↔
        classOf op = .reserved ∨ (classOf op).allows idx = true := by
  obtain ⟨n, hn⟩ := op
  interval_cases n <;> exact ⟨_, rfl, by decide +revert⟩

/-- R79 in terms of the `idx` classes: BAD_INDEX is for an `idx` that the class of a legal opcode
does not allow. -/
theorem rejectOf_eq_badIndex_iff (c : Command) :
    rejectOf c = some .badIndex ↔
      ¬ (classOf c.op = .reserved ∨ (classOf c.op).allows c.idx = true) := by
  simp only [rejectOf, ← classOf_eq_reserved_iff]
  cases classOf c.op <;> simp [IdxClass.allows]

/-- Settles O5: of the one row of the word's opcode, whether its mask admits `idx`. -/
theorem opcodeTableRowsPartitionWords : Obligations.OpcodeTableRowsPartitionWords := by
  intro c
  obtain ⟨row, hrow, hidx⟩ := opcodeTable_row c.op
  have hfilter : opcodeTable.filter (fun row => row.covers c) =
      [row].filter fun row => c.idx &&& row.mask.idx == row.pat.idx := by
    rw [← hrow, List.filter_filter]
    refine List.filter_congr fun row h => ?_
    rw [Bool.eq_iff_iff, covers_iff h c]
    simp [and_comm]
  rw [hfilter, if_congr ((rejectOf_eq_badIndex_iff c).trans (not_congr (hidx c.idx).symm)) rfl rfl]
  by_cases h : c.idx &&& row.mask.idx = row.pat.idx <;> simp [h]

/-! ## Closed words and counts (R72, R78) -/

/-- Settles O7, by evaluating the decoder on the eleven words. -/
theorem writtenOutWordsDecode : Obligations.WrittenOutWordsDecode := by
  unfold Obligations.WrittenOutWordsDecode
  decide

/-- Settles O6, by evaluating the five counts over the 256 headers. -/
theorem legalHeaderCounts : Obligations.LegalHeaderCounts :=
  ⟨rfl, rfl, rfl, rfl, rfl⟩

end Sys2Proof.Machine
end

section

/-! The decode procedure of 30_encoding.md R79, run: the error each header raises (R76, R77). -/

namespace Sys2Proof.Machine

open Machine.Laws Machine.Claims

/-- `raise E` records its code, keeps the first cause, and changes nothing else. -/
theorem onlyRaises_raiseError (e : InterfaceError) (s : State) :
    OnlyRaises (causeCode e) s (raiseError e s) :=
  ⟨rfl, rfl, rfl, rfl, rfl, rfl, ⟨rfl, rfl⟩, rfl, rfl⟩

theorem decodeFields_wellFormed (op idx : BitVec 4) (data : Word) :
    (decodeFields op idx data).wellFormed = (classOf op).allows idx := by
  rw [Instr.wellFormed, decodeFields_idxClass, decodeFields_idx]

theorem classOf_eq_Z_iff :
    ∀ op : BitVec 4, classOf op = .Z ↔ op ∈ [0x0#4, 0x3#4, 0xC#4, 0xD#4] := by
  decide

theorem classOf_eq_W_iff : ∀ op : BitVec 4, classOf op = .W ↔ op ∈ [0x1#4, 0x2#4, 0x9#4] := by
  decide

/-- Settles O16: the reserved opcodes have no operand and one effect. -/
theorem reservedOpcodesRaiseIllegalOpcode : Obligations.ReservedOpcodesRaiseIllegalOpcode :=
  fun s idx data => ⟨decode_mkCommand 0xE idx data, decode_mkCommand 0xF idx data,
    ⟨_, rfl, onlyRaises_raiseError .illegalOpcode s⟩,
    ⟨_, rfl, onlyRaises_raiseError .illegalOpcode s⟩⟩

section Effects

variable {op idx : BitVec 4} {data : Word} {s t : State}

theorem Effect.onlyRaises_illegalOpcode (h : Effect s (decodeFields op idx data) t)
    (reserved : classOf op = .reserved) : OnlyRaises 1 s t := by
  have hclass := (decodeFields_idxClass op idx data).trans reserved
  rw [h.eq_raiseError (illFormed_reserved hclass), errorOf, if_pos hclass]
  exact onlyRaises_raiseError .illegalOpcode s

theorem Effect.onlyRaises_badIndex (h : Effect s (decodeFields op idx data) t)
    (notReserved : classOf op ≠ .reserved) (illegal : (classOf op).allows idx = false) :
    OnlyRaises 2 s t := by
  rw [h.eq_raiseError ((decodeFields_wellFormed op idx data).trans illegal), errorOf,
    decodeFields_idxClass, if_neg notReserved]
  exact onlyRaises_raiseError .badIndex s

/-- A legal command keeps the error registers, but for CLRERR. -/
theorem Effect.error_of_legal (h : Effect s (decodeFields op idx data) t)
    (legal : (classOf op).allows idx = true) :
    t.err = (if op = 0xD#4 then false else s.err) ∧
      t.ecause = (if op = 0xD#4 then 0#4 else s.ecause) := by
  by_cases hop : op = 0xD#4
  · subst hop
    have hidx : idx = 0#4 := by simpa [classOf, IdxClass.allows] using legal
    subst hidx
    rw [h.eq_clearError rfl]
    exact ⟨rfl, rfl⟩
  · rw [if_neg hop, if_neg hop]
    refine h.keeps_error ((decodeFields_wellFormed op idx data).trans legal) fun isClrerr => hop ?_
    rw [← decodeFields_op op idx data, isClrerr]
    rfl

end Effects

/-- Settles O8, by the branches of R79: each is a class with what it allows of `idx`. -/
theorem decodeProcedureRaisesOrRuns : Obligations.DecodeProcedureRaisesOrRuns := by
  intro op idx data s
  rw [decode_mkCommand]
  obtain ⟨t, ht, heff⟩ := exec_effect (decodeFields op idx data) s
  refine ⟨t, ht, ?_⟩
  simp only [← classOf_eq_reserved_iff, ← classOf_eq_Z_iff, ← classOf_eq_W_iff,
    decodeFields_wellFormed]
  split
  case isTrue reserved => exact heff.onlyRaises_illegalOpcode reserved
  case isFalse reserved =>
  split
  case isTrue badZ =>
    obtain ⟨hZ, hidx⟩ := badZ
    exact heff.onlyRaises_badIndex reserved (by simpa [hZ, IdxClass.allows] using hidx)
  case isFalse badZ =>
  split
  case isTrue badW =>
    obtain ⟨hW, hidx⟩ := badW
    exact heff.onlyRaises_badIndex reserved (by simpa [hW, IdxClass.allows] using hidx)
  case isFalse badW =>
    have legal : (classOf op).allows idx = true := by
      cases hclass : classOf op with
      | Z => simpa [hclass, IdxClass.allows] using badZ
      | W => simpa [hclass, IdxClass.allows] using badW
      | R => rfl
      | reserved => exact absurd hclass reserved
    exact ⟨legal, heff.error_of_legal legal⟩

end Sys2Proof.Machine
end

section

/-! Runs of offered commands: LOADSTATE, READSTATE and ROTR (30_encoding.md R81). -/

namespace Sys2Proof.Machine

open Machine.Laws Machine.Claims

theorem wordIdx_toNat (w : Fin 8) : w.val = (wordIdx w).toNat := by
  simp [wordIdx]
  omega

/-- The core at rest runs the first offered command. -/
theorem step_offering_cons {s : State} (idle : s.busy = false) (i : Instr) (is : List Instr) :
    step (offering s (i :: is)) = exec i (offering s is) :=
  calc step (offering s (i :: is))
    _ = edge (EdgeInput.offer (encode i)) (offering s is) := step_eq_edge rfl
    _ = exec (decode (EdgeInput.offer (encode i)).command) (offering s is) :=
      edge_of_accepts ⟨rfl, idle, rfl⟩
    _ = exec i (offering s is) := by rw [command_offer, decodeOfEncodeIsIdentity]

theorem run_offering_cons {s t : State} {i : Instr} {is : List Instr} (idle : s.busy = false)
    (h : exec i (offering s is) = .next t) (k : Nat) :
    run (k + 1) (offering s (i :: is)) = run k t :=
  run_succ_of_next k _ t ((step_offering_cons idle i is).trans h)

theorem exec_ldw_offering (s : State) (w : Fin 8) (d : Word) (is : List Instr) :
    exec (.ldw (wordIdx w) d) (offering s is) = .next (offering (s.setWord w d).changed is) :=
  congrArg _ (classW_of_eq_toNat (wordIdx_toNat w) _ _)

theorem exec_rdw_offering (s : State) (w : Fin 8) (is : List Instr) :
    exec (.rdw (wordIdx w)) (offering s is) = .next (offering (s.respond (s.word w)) is) :=
  congrArg _ (classW_of_eq_toNat (wordIdx_toNat w) _ _)

theorem exec_rotw_offering (s : State) (w : Fin 8) (n : Word) (is : List Instr) :
    ∃ t, exec (.rotw (wordIdx w) n) (offering s is) = .next (offering t is) ∧ t.busy = s.busy ∧
      t.S = s.S.set w (rotl64 (s.word w) (rotAmount n)) :=
  ⟨(s.setWord w (rotl64 (s.word w) (rotAmount n))).changed,
    congrArg _ (classW_of_eq_toNat (wordIdx_toNat w) _ _), rfl, rfl⟩

/-- Loading a list of words from `v`, one command at each edge. -/
theorem run_loads (v : WordArray) (ws : List (Fin 8)) (is : List Instr) (s : State)
    (idle : s.busy = false) :
    ∃ t : State, run ws.length (offering s (ws.map (fun w => .ldw (wordIdx w) v[w]) ++ is)) =
        .next (offering t is) ∧
      t.busy = false ∧ t.responses = s.responses ∧
      ∀ w, t.word w = if w ∈ ws then v[w] else s.word w := by
  induction ws generalizing s with
  | nil => exact ⟨s, rfl, idle, rfl, fun _ => rfl⟩
  | cons x xs ih =>
    obtain ⟨t, hrun, hbusy, hresponses, hwords⟩ := ih (s.setWord x v[x]).changed idle
    refine ⟨t, (run_offering_cons idle (exec_ldw_offering s x v[x] _) _).trans hrun, hbusy,
      hresponses, fun w => ?_⟩
    rw [hwords w]
    by_cases hx : w = x
    · subst hx
      simp [State.word]
    · have hval : x.val ≠ w.val := fun h => hx (Fin.ext h.symm)
      simp [State.word, hx, hval]

/-- Reading a list of words, one command at each edge. -/
theorem run_reads (ws : List (Fin 8)) (is : List Instr) (s : State) (idle : s.busy = false) :
    ∃ t : State, run ws.length (offering s (ws.map (fun w => .rdw (wordIdx w)) ++ is)) =
        .next (offering t is) ∧
      t.busy = false ∧ t.S = s.S ∧ t.responses = s.responses ++ ws.map s.word := by
  induction ws generalizing s with
  | nil => exact ⟨s, rfl, idle, rfl, (List.append_nil _).symm⟩
  | cons x xs ih =>
    obtain ⟨t, hrun, hbusy, hS, hresponses⟩ := ih (s.respond (s.word x)) idle
    refine ⟨t, (run_offering_cons idle (exec_rdw_offering s x _) _).trans hrun, hbusy, hS, ?_⟩
    rw [hresponses, respond_responses, List.append_assoc]
    rfl

/-- The eight words of a state, word 0 first. -/
theorem map_word_finRange (s : State) : (List.finRange 8).map s.word = s.S.toList := by
  apply List.ext_getElem <;> simp [State.word]

/-- Settles O58: eight loads give the array, and eight reads answer it. -/
theorem loadStateThenReadStateAnswersIt : Obligations.LoadStateThenReadStateAnswersIt := by
  intro s v idle
  obtain ⟨t, hload, hbusy, hresponses, hwords⟩ :=
    run_loads v (List.finRange 8) AsmLine.readState.instrs s idle
  have hS : t.S = v := Vector.ext fun k hk => by simpa [State.word] using hwords ⟨k, hk⟩
  obtain ⟨u, hread, -, huS, huresponses⟩ := run_reads (List.finRange 8) [] t hbusy
  rw [List.append_nil] at hread
  refine ⟨offering u [], (run_add_of_next 8 8 _ _ hload).trans hread, huS.trans hS, ?_⟩
  change u.responses = _
  rw [huresponses, hresponses, map_word_finRange, hS]

/-! ## The inverse of a rotation (R81, 40_rotation.md R102) -/

/-- Amounts of successive rotations add up. -/
theorem rotl64_rotl64 (x : Word) (m n : Nat) : rotl64 (rotl64 x m) n = rotl64 x (m + n) := by
  apply BitVec.eq_of_getLsbD_eq
  intro k hk
  rw [getLsbD_rotl64 _ _ _ hk, getLsbD_rotl64 _ _ _ (Nat.mod_lt _ (by decide)),
    getLsbD_rotl64 _ _ _ hk]
  congr 1
  omega

theorem rotl64_eq_self (x : Word) {n : Nat} (h : n % 64 = 0) : rotl64 x n = x := by
  apply BitVec.eq_of_getLsbD_eq
  intro k hk
  rw [getLsbD_rotl64 _ _ _ hk, h]
  congr 1
  omega

/-- The amounts of ROTW and of its ROTR make a full turn. -/
theorem rotAmount_add_rotAmount_rotr (n : Word) :
    (rotAmount n + rotAmount (BitVec.ofNat 64 ((64 - rotAmount n) % 64))) % 64 = 0 := by
  simp only [rotAmount, BitVec.toNat_ofNat]
  omega

/-- Two ROTW of one word rotate it by both amounts. -/
theorem run_rotw_rotw (s : State) (w : Fin 8) (m n : Word) (idle : s.busy = false) :
    ∃ t : State, run 2 (offering s [.rotw (wordIdx w) m, .rotw (wordIdx w) n]) = .next t ∧
      t.S = s.S.set w (rotl64 (s.word w) (rotAmount m + rotAmount n)) := by
  obtain ⟨u, hfirst, hbusy, huS⟩ := exec_rotw_offering s w m [.rotw (wordIdx w) n]
  obtain ⟨t, hsecond, -, htS⟩ := exec_rotw_offering u w n []
  have hword : u.word w = rotl64 (s.word w) (rotAmount m) := by
    rw [State.word, huS]
    exact Vector.getElem_set_self w.isLt
  refine ⟨offering t [], (run_offering_cons idle hfirst 1).trans
    (run_offering_cons (hbusy.trans idle) hsecond 0), htS.trans ?_⟩
  rw [hword, huS, Vector.set_set, rotl64_rotl64]

/-- Settles O59: the two amounts make a full turn, and the array gets its own word back. -/
theorem rotrUndoesRotw : Obligations.RotrUndoesRotw := by
  intro s w n idle
  obtain ⟨t, hrun, hS⟩ := run_rotw_rotw s w n (BitVec.ofNat 64 ((64 - rotAmount n) % 64)) idle
  refine ⟨t, hrun, ?_⟩
  rw [hS, rotl64_eq_self _ (rotAmount_add_rotAmount_rotr n)]
  exact Vector.set_getElem_self w.isLt

end Sys2Proof.Machine
end

section

/-! The barrel shifter and ROTW (40_rotation.md). -/

namespace Sys2Proof.Machine

open Machine.Laws Machine.Claims

/-! ## The barrel shifter (R100, R102, R104) -/

/-- The two-shift formula of R100; at an amount of 0 it reads `x <<< 0 ||| x >>> 64`. -/
theorem rotl64_eq_or_shifts (x : Word) (n : Nat) :
    rotl64 x n = x <<< (n % 64) ||| x >>> (64 - n % 64) := by
  rw [rotl64, BitVec.rotateLeft_def, Nat.mod_mod]

/-- Bit `i` of the operand moves up by the amount (R100). -/
theorem getLsbD_rotl64_add_mod (x : Word) (n : Nat) {i : Nat} (hi : i < 64) :
    (rotl64 x n).getLsbD ((i + n) % 64) = x.getLsbD i := by
  have source : ((i + n) % 64 + (64 - n % 64)) % 64 = i := by omega
  rw [getLsbD_rotl64 _ _ _ (Nat.mod_lt _ (by decide)), source]

/-- Settles O17, from the bit law of the shifter and its two-shift formula. -/
theorem rotationMovesEveryBit : Obligations.RotationMovesEveryBit := fun x n =>
  ⟨fun _ hi => getLsbD_rotl64_add_mod x n hi, rotl64_eq_self x, fun _ => rotl64_eq_or_shifts x n⟩

/-- Settles O18: in either form the two amounts make a full turn. -/
theorem rotationInverseLaw : Obligations.RotationInverseLaw := by
  intro x r hr
  have reduced : (r + (64 - r) % 64) % 64 = 0 := by omega
  have unreduced : (r + (64 - r)) % 64 = 0 := by omega
  rw [rotl64_rotl64, rotl64_rotl64]
  exact ⟨rotl64_eq_self x reduced, rotl64_eq_self x unreduced⟩

/-- A word whose bits are all the same is a fixed point of every rotation. -/
theorem rotl64_eq_self_of_getLsbD_eq {x : Word} {b : Bool} (h : ∀ k < 64, x.getLsbD k = b)
    (n : Nat) : rotl64 x n = x := by
  apply BitVec.eq_of_getLsbD_eq
  intro k hk
  rw [getLsbD_rotl64 x n k hk, h k hk, h _ (Nat.mod_lt _ (by decide))]

/-- The bits of a rotated word are the rotated list of its bits. -/
theorem map_getLsbD_rotl64 (x : Word) (n : Nat) :
    (List.range 64).map (rotl64 x n).getLsbD =
      ((List.range 64).map x.getLsbD).rotate (64 - n % 64) := by
  apply List.ext_getElem
  · simp
  · intro k hk _
    have hk : k < 64 := by simpa using hk
    simp [List.getElem_rotate, getLsbD_rotl64 x n k hk]

/-- The number of 1 bits is that of a list of bits, which rotating the list keeps. -/
theorem length_filter_getLsbD_rotl64 (x : Word) (n : Nat) :
    ((List.range 64).filter fun i => (rotl64 x n).getLsbD i).length =
      ((List.range 64).filter fun i => x.getLsbD i).length := by
  have ones (y : Word) : ((List.range 64).filter fun i => y.getLsbD i).length =
      ((List.range 64).map y.getLsbD).countP id := by
    rw [List.countP_map, List.countP_eq_length_filter]
    rfl
  rw [ones, ones, map_getLsbD_rotl64]
  exact (List.rotate_perm _ _).countP_eq id

/-- Settles O19: equal bits stay where they are, and the bits are only moved. -/
theorem rotationFixedPoints : Obligations.RotationFixedPoints := by
  intro x n
  have allOnes : ∀ k < 64, (0xFFFFFFFFFFFFFFFF : Word).getLsbD k = true := by decide
  exact ⟨rotl64_eq_self_of_getLsbD_eq (fun _ _ => BitVec.getLsbD_zero) n,
    rotl64_eq_self_of_getLsbD_eq allOnes n, length_filter_getLsbD_rotl64 x n⟩

/-! ## Commands that write one named word (R105) -/

theorem classW_of_legal {idx : BitVec 4} (legal : idx[3] = false) (s : State)
    (f : Fin 8 → State) : classW idx s f = f (wordIndex idx) :=
  classW_of_eq_toNat (wordIndex_val legal) s f

theorem classW_of_illegal {idx : BitVec 4} (illegal : idx[3] = true) (s : State)
    (f : Fin 8 → State) : classW idx s f = raiseError .badIndex s :=
  if_pos illegal

/-- A class W command that writes the word it names gives it `f` of its number, and keeps the
others. -/
theorem word_classW_setWord_eq_ite (idx : BitVec 4) (s : State) (f : Fin 8 → Word) (w : Fin 8) :
    (classW idx s fun u => (s.setWord u (f u)).changed).word w =
      if w.val = idx.toNat then f w else s.word w := by
  split
  case isTrue named =>
    rw [classW_of_eq_toNat named]
    exact word_setWord_same s w (f w)
  case isFalse other => exact word_classW_setWord f other

/-- A state-changing command that completes in its edge clears `DONE` and keeps the other
registers. -/
theorem onlyWordsChanged_setWords_changed (s : State) (v : WordArray) :
    OnlyWordsChanged s (s.setWords v).changed :=
  ⟨rfl, ⟨rfl, rfl, rfl, rfl⟩, ⟨rfl, rfl⟩, rfl, rfl⟩

/-- Settles O20: ROTW writes the word it names, or raises BAD_INDEX. -/
theorem rotwRotatesTheNamedWord : Obligations.RotwRotatesTheNamedWord := by
  intro s idx data
  refine ⟨decode_mkCommand 0x9 idx data, fun legal => ⟨_, rfl, ?_, ?_⟩, fun illegal => ⟨_, rfl, ?_⟩⟩
  · exact word_classW_setWord_eq_ite idx s fun u => rotl64 (s.word u) (rotAmount data)
  · rw [classW_of_legal legal]
    exact onlyWordsChanged_setWords_changed s _
  · rw [classW_of_illegal illegal]
    exact onlyRaises_raiseError .badIndex s

end Sys2Proof.Machine
end

section

/-! What the round layers share: fixed points and linearity of rotation, the state array by index,
and a transform of two of its words. -/

namespace Sys2Proof.Machine

open Machine.Laws

/-! ## Rotation (40_rotation.md R104) -/

@[simp] theorem rotl64_zero_word (n : Nat) : rotl64 0#64 n = 0#64 :=
  rotl64_eq_self_of_getLsbD_eq (fun _ _ => BitVec.getLsbD_zero) n

@[simp] theorem rotl64_allOnes (n : Nat) :
    rotl64 0xFFFFFFFFFFFFFFFF#64 n = 0xFFFFFFFFFFFFFFFF#64 := by
  obtain ⟨-, allOnes, -⟩ := rotationFixedPoints 0 n
  exact allOnes

@[simp] theorem rotl64_zero_amount (x : Word) : rotl64 x 0 = x := rotl64_eq_self x rfl

/-- Rotation is linear over GF(2). -/
theorem rotl64_xor (x y : Word) (n : Nat) :
    rotl64 (x ^^^ y) n = rotl64 x n ^^^ rotl64 y n := by
  apply BitVec.eq_of_getLsbD_eq
  intro k hk
  simp only [BitVec.getLsbD_xor, getLsbD_rotl64 _ n k hk]

/-! ## Reading and writing by index modulo 8 -/

theorem word_eq_wordAt (s : State) (w : Fin 8) : s.word w = wordAt s.S w.val := by
  simp [State.word, wordAt, Nat.mod_eq_of_lt w.isLt]

theorem wordAt_congr (S : WordArray) {i j : Nat} (h : i % 8 = j % 8) : wordAt S i = wordAt S j := by
  simp only [wordAt, h]

@[simp] theorem wordAt_mod (S : WordArray) (i : Nat) : wordAt S (i % 8) = wordAt S i :=
  wordAt_congr S (Nat.mod_mod i 8)

@[simp] theorem setWordAt_wordAt (S : WordArray) (i : Nat) : setWordAt S i (wordAt S i) = S :=
  Vector.set_getElem_self _

theorem setWordAt_comm {S : WordArray} {i j : Nat} {v w : Word} (h : i % 8 ≠ j % 8) :
    setWordAt (setWordAt S i v) j w = setWordAt (setWordAt S j w) i v :=
  Vector.set_comm v w h

@[simp] theorem wordAt_zeroWords (i : Nat) : wordAt zeroWords i = 0 := by
  have replicated : zeroWords = Vector.replicate 8 0 := rfl
  rw [wordAt, replicated, Vector.getElem_replicate]

/-! ## A transform of two words -/

/-- The array with the words of indices `a` and `b` put through `f`; a sub-step of the ARX layer is
one of these (`arxSubStep_eq_mapPair`). -/
def mapPair (f : Word × Word → Word × Word) (a b : Nat) (S : WordArray) : WordArray :=
  setWordAt (setWordAt S a (f (wordAt S a, wordAt S b)).1) b (f (wordAt S a, wordAt S b)).2

section MapPair

variable {f g : Word × Word → Word × Word} {a b c d : Nat} {S : WordArray}

theorem wordAt_mapPair_fst (hab : a % 8 ≠ b % 8) :
    wordAt (mapPair f a b S) a = (f (wordAt S a, wordAt S b)).1 := by
  rw [mapPair, wordAt_setWordAt_ne _ _ _ _ hab.symm, wordAt_setWordAt_same _ _ _ _ rfl]

theorem wordAt_mapPair_snd : wordAt (mapPair f a b S) b = (f (wordAt S a, wordAt S b)).2 :=
  wordAt_setWordAt_same _ _ _ _ rfl

theorem wordAt_mapPair_ne {k : Nat} (ha : a % 8 ≠ k % 8) (hb : b % 8 ≠ k % 8) :
    wordAt (mapPair f a b S) k = wordAt S k := by
  rw [mapPair, wordAt_setWordAt_ne _ _ _ _ hb, wordAt_setWordAt_ne _ _ _ _ ha]

/-- An array is determined by two of its words and the others. -/
theorem wordArray_ext_pair {T : WordArray} (ha : wordAt S a = wordAt T a)
    (hb : wordAt S b = wordAt T b)
    (hother : ∀ k, a % 8 ≠ k % 8 → b % 8 ≠ k % 8 → wordAt S k = wordAt T k) : S = T := by
  refine wordArray_ext S T fun k _ => ?_
  by_cases hka : a % 8 = k % 8
  · rwa [← wordAt_congr S hka, ← wordAt_congr T hka]
  · by_cases hkb : b % 8 = k % 8
    · rwa [← wordAt_congr S hkb, ← wordAt_congr T hkb]
    · exact hother k hka hkb

/-- A transform that gives the two words back leaves the array as it is. -/
theorem mapPair_eq_self (h : f (wordAt S a, wordAt S b) = (wordAt S a, wordAt S b)) :
    mapPair f a b S = S := by
  rw [mapPair, h, setWordAt_wordAt, setWordAt_wordAt]

theorem mapPair_mapPair (hab : a % 8 ≠ b % 8) :
    mapPair g a b (mapPair f a b S) = mapPair (g ∘ f) a b S := by
  apply wordArray_ext_pair (a := a) (b := b)
  · simp only [wordAt_mapPair_fst hab, wordAt_mapPair_snd, Function.comp_apply, Prod.mk.eta]
  · simp only [wordAt_mapPair_fst hab, wordAt_mapPair_snd, Function.comp_apply, Prod.mk.eta]
  · intro k ha hb
    simp only [wordAt_mapPair_ne ha hb]

theorem leftInverse_mapPair (hab : a % 8 ≠ b % 8) (h : Function.LeftInverse g f) :
    Function.LeftInverse (mapPair g a b) (mapPair f a b) := fun S => by
  rw [mapPair_mapPair hab, h.id]
  exact mapPair_eq_self rfl

/-- Transforms of disjoint pairs commute: neither reads or writes a word of the other. -/
theorem mapPair_comm (hac : a % 8 ≠ c % 8) (had : a % 8 ≠ d % 8) (hbc : b % 8 ≠ c % 8)
    (hbd : b % 8 ≠ d % 8) :
    mapPair g c d (mapPair f a b S) = mapPair f a b (mapPair g c d S) := by
  simp only [mapPair, wordAt_setWordAt_ne _ _ _ _ hac, wordAt_setWordAt_ne _ _ _ _ had,
    wordAt_setWordAt_ne _ _ _ _ hbc, wordAt_setWordAt_ne _ _ _ _ hbd,
    wordAt_setWordAt_ne _ _ _ _ hac.symm, wordAt_setWordAt_ne _ _ _ _ had.symm,
    wordAt_setWordAt_ne _ _ _ _ hbc.symm, wordAt_setWordAt_ne _ _ _ _ hbd.symm]
  rw [setWordAt_comm hbc, setWordAt_comm hac, setWordAt_comm hbd, setWordAt_comm had]

end MapPair

end Sys2Proof.Machine
end

section

/-! The nonlinear ARX layer (41_round_layers.md R122 to R126, R135, R138). -/

namespace Sys2Proof.Machine

open Machine.Laws Machine.Claims

/-! ## The four pairs (R122, R123) -/

section Pairs

variable (r : Fin 16) (i j : Nat)

/-- The first words of the pairs have the parity of `r`, the second words the other. -/
theorem pairA_mod_ne_pairB_mod : pairA r i % 8 ≠ pairB r j % 8 := by
  simp only [pairA, pairB]
  omega

variable {i j}

theorem pairA_mod_ne_pairA_mod (hi : i < 4) (hj : j < 4) (hij : i ≠ j) :
    pairA r i % 8 ≠ pairA r j % 8 := by
  simp only [pairA]
  omega

theorem pairB_mod_ne_pairB_mod (hi : i < 4) (hj : j < 4) (hij : i ≠ j) :
    pairB r i % 8 ≠ pairB r j % 8 := by
  simp only [pairB, pairA]
  omega

/-- The word `w` is in the pair `i` for which `w - r` is `2 i` or `2 i + 1` modulo 8. -/
theorem exists_pair_of_word {w : Nat} (hw : w < 8) :
    ∃ i < 4, w = pairA r i ∨ w = pairB r i := by
  refine ⟨(w + 16 - r.val) % 8 / 2, by omega, ?_⟩
  simp only [pairA, pairB]
  omega

/-- Round indices of one parity have the same pairs, in another order. -/
theorem exists_pair_of_parity {r' : Fin 16} (parity : r.val % 2 = r'.val % 2) (i : Nat) :
    ∃ j < 4, pairA r i = pairA r' j ∧ pairB r i = pairB r' j := by
  refine ⟨(i + (16 + r.val - r'.val) / 2) % 4, by omega, ?_⟩
  simp only [pairA, pairB]
  omega

end Pairs

/-- Settles O24, by the residues of the pairs' words modulo 8. -/
theorem arxPairsCoverEveryWordOnce : Obligations.ArxPairsCoverEveryWordOnce :=
  ⟨fun r => ⟨fun _ hw => exists_pair_of_word r hw, fun i hi j hj =>
    ⟨ne_of_apply_ne (· % 8) (pairA_mod_ne_pairB_mod r i j), fun hij =>
      ⟨ne_of_apply_ne (· % 8) (pairA_mod_ne_pairA_mod r hi hj hij),
        ne_of_apply_ne (· % 8) (pairB_mod_ne_pairB_mod r hi hj hij)⟩⟩⟩,
    fun r _ parity i _ => exists_pair_of_parity r parity i⟩

theorem wordAt_pairA (S : WordArray) (r : Fin 16) (i : Nat) :
    wordAt S (pairA r i) = wordAt S (2 * i + r.val) :=
  wordAt_mod S _

theorem wordAt_pairB (S : WordArray) (r : Fin 16) (i : Nat) :
    wordAt S (pairB r i) = wordAt S (2 * i + r.val + 1) := by
  rw [pairB, wordAt_mod, pairA]
  exact wordAt_congr S (Nat.mod_add_mod _ 8 1)

/-! ## Sub-steps (R124 to R126) -/

/-- The pair transform of round `r`, with the amounts `ROT1[r]` to `ROT4[r]`. -/
def roundPair (cfg : Config) (r : Fin 16) (p : Word × Word) : Word × Word :=
  arxPair p.1 p.2 cfg.rot1[r].val cfg.rot2[r].val cfg.rot3[r].val cfg.rot4[r].val

theorem arxSubStep_eq_mapPair (cfg : Config) (r : Fin 16) (S : WordArray) (i : Nat) :
    arxSubStep cfg r S i = mapPair (roundPair cfg r) (pairA r i) (pairB r i) S := rfl

theorem arxSubStep_comm (cfg : Config) (r : Fin 16) (S : WordArray) {i j : Nat} (hi : i < 4)
    (hj : j < 4) :
    arxSubStep cfg r (arxSubStep cfg r S i) j = arxSubStep cfg r (arxSubStep cfg r S j) i := by
  by_cases hij : i = j
  · rw [hij]
  · simp only [arxSubStep_eq_mapPair]
    exact mapPair_comm (pairA_mod_ne_pairA_mod r hi hj hij) (pairA_mod_ne_pairB_mod r i j)
      (pairA_mod_ne_pairB_mod r j i).symm (pairB_mod_ne_pairB_mod r hi hj hij)

/-- Settles O25: sub-steps commute, because their pairs are disjoint. -/
theorem arxSubStepOrderIsIrrelevant : Obligations.ArxSubStepOrderIsIrrelevant := by
  intro cfg S r order hperm
  have hrange : order.Perm (List.range 4) := hperm
  have below (i : Nat) (hi : i ∈ order) : i < 4 := List.mem_range.1 (hrange.mem_iff.1 hi)
  exact hperm.foldl_eq' (fun i hi j hj S => arxSubStep_comm cfg r S (below i hi) (below j hj)) S

/-- Sub-steps of other pairs keep both words of pair `i`. -/
theorem wordAt_foldl_arxSubStep_of_other (cfg : Config) (r : Fin 16) {i : Nat} (hi : i < 4)
    (js : List Nat) (hjs : ∀ j ∈ js, j < 4 ∧ j ≠ i) (S : WordArray) :
    wordAt (js.foldl (arxSubStep cfg r) S) (pairA r i) = wordAt S (pairA r i) ∧
      wordAt (js.foldl (arxSubStep cfg r) S) (pairB r i) = wordAt S (pairB r i) := by
  induction js generalizing S with
  | nil => exact ⟨rfl, rfl⟩
  | cons j js ih =>
    obtain ⟨⟨hj, hji⟩, hjs⟩ := List.forall_mem_cons.1 hjs
    obtain ⟨hA, hB⟩ := ih hjs (arxSubStep cfg r S j)
    rw [List.foldl_cons, hA, hB, arxSubStep_eq_mapPair]
    exact ⟨wordAt_mapPair_ne (pairA_mod_ne_pairA_mod r hj hi hji)
        (pairA_mod_ne_pairB_mod r i j).symm,
      wordAt_mapPair_ne (pairA_mod_ne_pairB_mod r j i) (pairB_mod_ne_pairB_mod r hj hi hji)⟩

/-- The ARX layer puts each pair through the pair transform: its sub-step may be taken first, and
the others keep its words. -/
theorem wordAt_arx (cfg : Config) (S : WordArray) (r : Fin 16) {i : Nat} (hi : i < 4) :
    (wordAt (arx cfg S r) (pairA r i), wordAt (arx cfg S r) (pairB r i)) =
      roundPair cfg r (wordAt S (pairA r i), wordAt S (pairB r i)) := by
  have first : arx cfg S r =
      ((List.range 4).erase i).foldl (arxSubStep cfg r) (arxSubStep cfg r S i) :=
    (arxSubStepOrderIsIrrelevant cfg S r _ (List.perm_cons_erase (List.mem_range.2 hi)).symm).symm
  have others (j : Nat) (hj : j ∈ (List.range 4).erase i) : j < 4 ∧ j ≠ i := by
    obtain ⟨hji, hj⟩ := List.nodup_range.mem_erase_iff.1 hj
    exact ⟨List.mem_range.1 hj, hji⟩
  obtain ⟨hA, hB⟩ := wordAt_foldl_arxSubStep_of_other cfg r hi _ others (arxSubStep cfg r S i)
  rw [first, hA, hB, arxSubStep_eq_mapPair, wordAt_mapPair_fst (pairA_mod_ne_pairB_mod r i i),
    wordAt_mapPair_snd]

/-- Settles O23: what the pair transform of the round writes to each pair. -/
theorem arxTransformsTheFourPairs : Obligations.ArxTransformsTheFourPairs := by
  intro s r data
  refine ⟨decode_mkCommand 0x6 r data, _, rfl, fun i hi => ⟨_, _, _, _, rfl, rfl, rfl, rfl, ?_⟩,
    onlyWordsChanged_setWords_changed s _⟩
  have hpair := wordAt_arx s.build s.S (roundIndex r) hi
  simp only [wordAt_pairA, wordAt_pairB, roundPair] at hpair
  exact Prod.mk.inj hpair

/-! ## The inverse of the layer (R126) -/

/-- The four operations of `roundPair` undone in reverse order. -/
def roundPairInv (cfg : Config) (r : Fin 16) (p : Word × Word) : Word × Word :=
  let y := p.2 ^^^ rotl64 p.1 cfg.rot4[r].val
  let x := p.1 - rotl64 y cfg.rot3[r].val
  let y := y ^^^ rotl64 x cfg.rot2[r].val
  (x - rotl64 y cfg.rot1[r].val, y)

theorem leftInverse_roundPairInv (cfg : Config) (r : Fin 16) :
    Function.LeftInverse (roundPairInv cfg r) (roundPair cfg r) := fun p => by
  simp [roundPair, roundPairInv, arxPair, BitVec.xor_assoc]

theorem rightInverse_roundPairInv (cfg : Config) (r : Fin 16) :
    Function.RightInverse (roundPairInv cfg r) (roundPair cfg r) := fun p => by
  simp [roundPair, roundPairInv, arxPair, BitVec.xor_assoc]

theorem arxSubStep_bijective (cfg : Config) (r : Fin 16) (i : Nat) :
    Function.Bijective fun S => arxSubStep cfg r S i := by
  have disjoint := pairA_mod_ne_pairB_mod r i i
  simp only [arxSubStep_eq_mapPair]
  exact Function.bijective_iff_has_inverse.2 ⟨mapPair (roundPairInv cfg r) (pairA r i) (pairB r i),
    leftInverse_mapPair disjoint (leftInverse_roundPairInv cfg r),
    leftInverse_mapPair disjoint (rightInverse_roundPairInv cfg r)⟩

/-- Settles O26: the layer is the composition of four sub-steps. -/
theorem arxLayerIsBijective : Obligations.ArxLayerIsBijective := fun cfg r =>
  (arxSubStep_bijective cfg r 3).comp <| (arxSubStep_bijective cfg r 2).comp <|
    (arxSubStep_bijective cfg r 1).comp (arxSubStep_bijective cfg r 0)

/-! ## Corner cases (R138) -/

theorem arxPair_zero (r1 r2 r3 r4 : Nat) : arxPair 0 0 r1 r2 r3 r4 = (0, 0) := by
  simp [arxPair]

theorem arx_zeroWords (cfg : Config) (r : Fin 16) : arx cfg zeroWords r = zeroWords := by
  refine List.foldl_fixed' (fun i => ?_) _
  rw [arxSubStep_eq_mapPair]
  apply mapPair_eq_self
  rw [wordAt_zeroWords, wordAt_zeroWords]
  exact arxPair_zero _ _ _ _

/-- The first addition wraps to 0, so the first XOR leaves `y` at all-ones and the second
clears it. -/
theorem arxPair_one_allOnes (r1 r2 r3 r4 : Nat) :
    arxPair 1 0xFFFFFFFFFFFFFFFF r1 r2 r3 r4 = (0xFFFFFFFFFFFFFFFF, 0) := by
  simp [arxPair]

theorem arxPair_amounts_zero (x y : Word) : arxPair x y 0 0 0 0 =
    (x + y + (y ^^^ (x + y)), (y ^^^ (x + y)) ^^^ (x + y + (y ^^^ (x + y)))) := by
  simp only [arxPair, rotl64_zero_amount]

/-- Settles O27, by the fixed points of rotation (40_rotation.md R104). -/
theorem arxCornerCases : Obligations.ArxCornerCases :=
  ⟨arxPair_zero, arx_zeroWords, arxPair_one_allOnes, arxPair_amounts_zero,
    arxPair_amounts_zero _ _, rotl64_zero_amount⟩

end Sys2Proof.Machine
end

section

/-! Constant injection, intra-word diffusion and global mixing (41_round_layers.md R120, R121, R127
to R134, R136, R137). -/

namespace Sys2Proof.Machine

open Machine.Laws Machine.Claims

/-! ## Constant injection (R120, R121, R134) -/

/-- Settles O21: the words of `cinj`, and the frame of a layer command. -/
theorem cinjInjectsOneConstant : Obligations.CinjInjectsOneConstant := by
  intro s r data
  refine ⟨decode_mkCommand 0x5 r data, _, rfl, fun w => ?_, onlyWordsChanged_setWords_changed s _⟩
  rw [word_eq_wordAt, word_eq_wordAt]
  have hword := wordAt_cinj s.build s.S (roundIndex r) w.val
  rwa [Nat.mod_eq_of_lt w.isLt] at hword

/-- Settles O22: the constant XORed twice into the same word cancels. -/
theorem cinjIsAnInvolution : Obligations.CinjIsAnInvolution := by
  intro cfg S r
  refine wordArray_ext _ _ fun i _ => ?_
  rw [wordAt_cinj, wordAt_cinj]
  split
  case isTrue => rw [BitVec.xor_assoc, BitVec.xor_self, BitVec.xor_zero]
  case isFalse => rfl

/-! ## Intra-word diffusion (R127 to R130, R136) -/

/-- The word function is linear over GF(2) in both forms. -/
theorem mdsWord_xor (form : MdsForm) (v w : Word) (r : Fin 16) :
    mdsWord form (v ^^^ w) r = mdsWord form v r ^^^ mdsWord form w r := by
  cases form <;> simp only [mdsWord, rotl64_xor] <;> ac_rfl

/-- Four all-ones words cancel in the PARALLEL form, the first two in the CHAINED form. -/
theorem mdsWord_allOnes (form : MdsForm) (r : Fin 16) :
    mdsWord form 0xFFFFFFFFFFFFFFFF r = 0 := by
  cases form <;> simp [mdsWord]

theorem mdsWord_zero (form : MdsForm) (r : Fin 16) : mdsWord form 0 r = 0 := by
  cases form <;> simp [mdsWord]

/-- Settles O29: a word and its complement differ by all-ones, which the linear word function maps
to 0. -/
theorem mdsWordIsNotInjective : Obligations.MdsWordIsNotInjective := fun form r =>
  ⟨mdsWord_allOnes form r, mdsWord_zero form r, fun w => by
    rw [mdsWord_xor, mdsWord_allOnes]
    exact BitVec.xor_zero⟩

theorem word_mds (s : State) (r : Fin 16) (w : Fin 8) :
    (s.setWords (mds s.build s.S r)).changed.word w =
      mdsWord s.build.mdsForm (s.word w) r := by
  rw [word_eq_wordAt, word_eq_wordAt]
  exact wordAt_mds s.build s.S r w.val

/-- Settles O28: each word goes through the word function, in the form of the build. -/
theorem mdsDiffusesEachWord : Obligations.MdsDiffusesEachWord := by
  intro s r data
  refine ⟨decode_mkCommand 0x7 r data, _, rfl, fun parallel w => ?_, fun chained w => ?_,
    onlyWordsChanged_setWords_changed s _⟩
  · rw [word_mds, parallel]
    rfl
  · refine ⟨_, _, rfl, rfl, ?_⟩
    rw [word_mds, chained]
    rfl

/-! ## Global mixing (R131 to R133, R137) -/

/-- Settles O30: the words of `gmix`, and the frame of a layer command. -/
theorem gmixMixesTheSnapshot : Obligations.GmixMixesTheSnapshot := by
  intro s r data
  refine ⟨decode_mkCommand 0x8 r data, _, rfl, fun w => ?_, onlyWordsChanged_setWords_changed s _⟩
  rw [word_eq_wordAt, word_eq_wordAt]
  exact wordAt_gmix s.S (roundIndex r) w.val

theorem mixOffset1_odd (r : Fin 16) : mixOffset1 r % 2 = 1 := by
  simp only [mixOffset1]
  omega

theorem mixOffset2_eq_zero_iff : ∀ r : Fin 16, mixOffset2 r = 0 ↔ r = 7 ∨ r = 15 := by decide

theorem mixOffset1_eq_mixOffset2_iff :
    ∀ r : Fin 16, mixOffset1 r = mixOffset2 r ↔ r = 6 ∨ r = 14 := by decide

/-- With the second offset 0 the first and the third term cancel. -/
theorem wordAt_gmix_of_mixOffset2_eq_zero {r : Fin 16} (h : mixOffset2 r = 0) (S : WordArray)
    (i : Nat) : wordAt (gmix S r) i = wordAt S (i + mixOffset1 r) := by
  rw [wordAt_gmix, h, Nat.add_zero, BitVec.xor_comm (wordAt S i), BitVec.xor_assoc,
    BitVec.xor_self, BitVec.xor_zero]

/-- With equal offsets the second and the third term cancel. -/
theorem gmix_of_mixOffset1_eq_mixOffset2 {r : Fin 16} (h : mixOffset1 r = mixOffset2 r)
    (S : WordArray) : gmix S r = S := by
  refine wordArray_ext _ _ fun i _ => ?_
  rw [wordAt_gmix, h, BitVec.xor_assoc, BitVec.xor_self, BitVec.xor_zero]

/-- Each word XORed with those `a` and `b` places on: global mixing with its offsets free. -/
def mixBy (a b : Nat) (S : WordArray) : WordArray :=
  Vector.ofFn fun i : Fin 8 => S[i] ^^^ wordAt S (i.val + a) ^^^ wordAt S (i.val + b)

theorem gmix_eq_mixBy (S : WordArray) (r : Fin 16) :
    gmix S r = mixBy (mixOffset1 r) (mixOffset2 r) S := rfl

theorem wordAt_mixBy (a b : Nat) (S : WordArray) (i : Nat) :
    wordAt (mixBy a b S) i = wordAt S i ^^^ wordAt S (i + a) ^^^ wordAt S (i + b) := by
  simp [mixBy, wordAt]

theorem xor_mixed_terms_cancel (t a b aa ab bb : Word) :
    t ^^^ a ^^^ b ^^^ (a ^^^ aa ^^^ ab) ^^^ (b ^^^ ab ^^^ bb) = t ^^^ aa ^^^ bb :=
  calc t ^^^ a ^^^ b ^^^ (a ^^^ aa ^^^ ab) ^^^ (b ^^^ ab ^^^ bb)
    _ = t ^^^ aa ^^^ bb ^^^ (a ^^^ a) ^^^ (b ^^^ b) ^^^ (ab ^^^ ab) := by ac_rfl
    _ = t ^^^ aa ^^^ bb := by simp only [BitVec.xor_self, BitVec.xor_zero]

/-- Squaring over GF(2): the mixed terms cancel and the offsets double. -/
theorem mixBy_mixBy (a b : Nat) (S : WordArray) :
    mixBy a b (mixBy a b S) = mixBy (2 * a) (2 * b) S := by
  refine wordArray_ext _ _ fun i _ => ?_
  have hab : i + b + a = i + a + b := Nat.add_right_comm i b a
  simp only [wordAt_mixBy, hab, two_mul, ← Nat.add_assoc]
  exact xor_mixed_terms_cancel _ _ _ _ _ _

theorem mixBy_of_mod_eq_zero {a b : Nat} (ha : a % 8 = 0) (hb : b % 8 = 0) (S : WordArray) :
    mixBy a b S = S := by
  refine wordArray_ext _ _ fun i _ => ?_
  rw [wordAt_mixBy, wordAt_congr S (by omega : (i + a) % 8 = i % 8),
    wordAt_congr S (by omega : (i + b) % 8 = i % 8), BitVec.xor_self, BitVec.zero_xor]

/-- Eight times the mixing is the mixing with offsets 8 times as large, which is none: modulo
`y^8 + 1` the eighth power of a polynomial with three terms is 1. -/
theorem gmix_iterate_eight (S : WordArray) (r : Fin 16) : (fun T => gmix T r)^[8] S = S := by
  simp only [Function.iterate_succ_apply, Function.iterate_zero_apply, gmix_eq_mixBy, mixBy_mixBy]
  exact mixBy_of_mod_eq_zero (by omega) (by omega) S

/-- Seven more times the mixing undoes it. -/
theorem gmix_bijective (r : Fin 16) : Function.Bijective fun S : WordArray => gmix S r :=
  Function.bijective_iff_has_inverse.2 ⟨(fun T => gmix T r)^[7], fun S => gmix_iterate_eight S r,
    fun S => (Function.iterate_succ_apply' _ 7 S).symm.trans (gmix_iterate_eight S r)⟩

/-- Settles O31: which terms cancel in the rounds of R133, and the period of the mixing. -/
theorem gmixDegenerateRoundsAndBijectivity : Obligations.GmixDegenerateRoundsAndBijectivity := by
  intro r
  refine ⟨mixOffset1_odd r, mixOffset2_eq_zero_iff r, mixOffset1_eq_mixOffset2_iff r,
    fun rotates S i _ => ?_, fun idles => ?_, gmix_bijective r⟩
  · have offset : mixOffset1 r = 7 := by rcases rotates with rfl | rfl <;> rfl
    rw [wordAt_gmix_of_mixOffset2_eq_zero ((mixOffset2_eq_zero_iff r).2 rotates), offset]
  · exact gmix_of_mixOffset1_eq_mixOffset2 ((mixOffset1_eq_mixOffset2_iff r).2 idles)

end Sys2Proof.Machine
end

section

/-! RND, PERM and the permutation `p0` (42_round_driver.md R160, R161, R165 to R168). -/

namespace Sys2Proof.Machine

open Machine.Laws Machine.Claims

/-! ## RND (R160, R165) -/

/-- Settles O32: RND writes the round function of its index, with the frame of a layer command. -/
theorem rndAppliesTheFourLayers : Obligations.RndAppliesTheFourLayers := by
  intro s r k data hk
  obtain rfl : roundIndex r = k := Fin.ext hk.symm
  exact ⟨decode_mkCommand 0x4 r data, _, rfl, rfl, onlyWordsChanged_setWords_changed s _⟩

/-- The core at rest goes on after an offered command that writes the array in its edge. -/
theorem run_offering_setWords {s t : State} {i : Instr} {is : List Instr} {v : WordArray} {k : Nat}
    (idle : s.busy = false)
    (h : exec i (offering s is) = .next (offering (s.setWords v).changed is))
    (rest : run k (offering (s.setWords v).changed is) = .next t) :
    run (k + 1) (offering s (i :: is)) = .next t :=
  (run_offering_cons idle h k).trans rest

/-- Settles O33: each layer command reads what the one before left, and leaves the core ready for the
next. -/
theorem rndEqualsItsFourLayerCommands : Obligations.RndEqualsItsFourLayerCommands := by
  intro s r idle
  refine ⟨_, _, step_offering_cons idle (.rnd r) [],
    run_offering_setWords idle rfl <| run_offering_setWords idle rfl <|
      run_offering_setWords idle rfl <| run_offering_setWords idle rfl <| run_zero _,
    rfl, rfl, rfl, rfl, rfl, rfl, rfl, rfl⟩

/-! ## The permutation (R161) -/

@[simp] theorem roundNumber_val (r : Fin 16) : roundNumber r.val = r :=
  Fin.ext (Nat.mod_eq_of_lt r.isLt)

/-- Going through the numbers below `m` in increasing order, and applying the rounds below `n`. -/
theorem foldl_range_round (cfg : Config) (n m : Nat) (S : WordArray) :
    (List.range m).foldl (fun T k => if k < n then round cfg T (roundNumber k) else T) S =
      applyRounds cfg (min m n) S := by
  induction m with
  | zero => rw [Nat.zero_min]; rfl
  | succ m ih =>
    rw [List.range_succ, List.foldl_append, ih, List.foldl_cons, List.foldl_nil]
    split
    case isTrue below =>
      rw [Nat.min_eq_left below.le, Nat.min_eq_left below]
      rfl
    case isFalse above =>
      rw [Nat.min_eq_right (Nat.le_of_not_lt above), Nat.min_eq_right (by omega)]

/-- Settles O37: of the sixteen round indices those below `NROUNDS` are applied. -/
theorem p0IsTheRoundsInOrder : Obligations.P0IsTheRoundsInOrder := by
  intro cfg S
  have all := foldl_range_round cfg cfg.nrounds.val 16 S
  rw [Nat.min_eq_right cfg.nrounds.le_sixteen, ← List.map_coe_finRange_eq_range,
    List.foldl_map] at all
  simp only [roundNumber_val] at all
  exact all.symm

/-- RND 0 to RND n-1, one at each edge. -/
theorem run_rnds (n : Nat) (is : List Instr) (s : State) (idle : s.busy = false) :
    ∃ t : State, run n (offering s ((List.range n).map (fun k => .rnd (BitVec.ofNat 4 k)) ++ is)) =
        .next (offering t is) ∧
      t.S = applyRounds s.build n s.S ∧ t.build = s.build ∧ t.busy = false ∧ t.rcnt = s.rcnt ∧
      (0 < n → t.done = false) := by
  induction n generalizing is with
  | zero => exact ⟨s, rfl, rfl, rfl, idle, rfl, nofun⟩
  | succ n ih =>
    obtain ⟨t, hrun, hS, hbuild, hbusy, hrcnt, -⟩ := ih (.rnd (BitVec.ofNat 4 n) :: is)
    have index : roundIndex (BitVec.ofNat 4 n) = roundNumber n := Fin.ext (BitVec.toNat_ofNat n 4)
    refine ⟨(t.setWords (round t.build t.S (roundNumber n))).changed, ?_, ?_, hbuild, hbusy, hrcnt,
      fun _ => rfl⟩
    · rw [List.range_succ, List.map_append, List.append_assoc, ← index]
      exact (run_add_of_next n 1 _ _ hrun).trans (run_offering_setWords hbusy rfl (run_zero _))
    · rw [applyRounds, ← hS, ← hbuild]
      rfl

/-- Settles O38: `NROUNDS` is at least 1, so a last RND has cleared `DONE`. -/
theorem rndSequenceComputesP0 : Obligations.RndSequenceComputesP0 := by
  intro s idle
  obtain ⟨t, hrun, hS, -, hbusy, hrcnt, hdone⟩ := run_rnds s.build.nrounds.val [] s idle
  rw [List.append_nil] at hrun
  exact ⟨offering t [], hrun, hS, hdone s.build.nrounds.one_le, hbusy, hrcnt⟩

/-! ## PERM (R166 to R168) -/

theorem classZ_of_ne_zero {idx : BitVec 4} (illegal : idx ≠ 0#4) (s effect : State) :
    classZ idx s effect = raiseError .badIndex s :=
  if_neg illegal

/-- Settles O34: a legal PERM starts the sequencer, and the other `idx` values raise BAD_INDEX. -/
theorem permAcceptanceStartsTheSequencer : Obligations.PermAcceptanceStartsTheSequencer := by
  intro s idx data
  refine ⟨decode_mkCommand 0x3 idx data, fun legal => ?_, fun illegal => ⟨_, rfl, ?_⟩⟩
  · subst legal
    exact ⟨startPerm s, rfl, rfl, rfl, rfl, rfl, rfl, rfl, ⟨rfl, rfl⟩, ⟨rfl, rfl⟩, rfl⟩
  · rw [classZ_of_ne_zero illegal]
    exact onlyRaises_raiseError .badIndex s

/-- `RCNT` counts a round index without wrapping. -/
theorem succ_rcnt_toNat {s : State} {k : Nat} (hk : s.rcnt.toNat = k) (index : k < 16) :
    (s.rcnt + 1).toNat = k + 1 := by
  rw [BitVec.toNat_add_of_lt (by change _ + 1 < 32; omega), hk]
  rfl

theorem permRoundStep_busy_eq {s : State} (busy : s.busy = true) :
    (permRoundStep s).busy = decide (s.rcnt.toNat + 1 ≠ s.build.nrounds.val) := by
  rw [Bool.eq_iff_iff, decide_eq_true_iff, ne_eq, ← succ_rcnt_toNat_eq_nrounds_iff,
    ← permRoundStep_busy_eq_false_iff busy, Bool.not_eq_false]

/-- Settles O35, register by register. -/
theorem busyEdgeRunsOneRound : Obligations.BusyEdgeRunsOneRound := by
  intro s e es k hinputs noRst busy hk
  refine ⟨permRoundStep { s with inputs := es },
    (step_eq_edge hinputs).trans (edge_of_busy noRst busy), ?_, succ_rcnt_toNat hk k.isLt, ?_, ?_,
    rfl, rfl, rfl, rfl, rfl, rfl⟩
  · rw [permRoundStep_S, hk, roundNumber_val]
  · rw [permRoundStep_busy_eq (s := { s with inputs := es }) busy, hk]
  · rw [permRoundStep_done_eq, hk]

/-- The PERM accepted in the state `s` has run `k` rounds and left the state `t`. -/
structure AfterRounds (s : State) (k : Nat) (t : State) : Prop where
  words : t.S = applyRounds s.build k s.S
  rcnt : t.rcnt.toNat = k
  busy : t.busy = decide (k < s.build.nrounds.val)
  done : t.done = decide (k = s.build.nrounds.val)
  err : t.err = s.err
  ecause : t.ecause = s.ecause
  build : t.build = s.build
  noResponse : NoResponse s t

namespace AfterRounds

variable {s t : State} {k : Nat}

theorem startPerm (s : State) : AfterRounds s 0 (startPerm s) where
  words := rfl
  rcnt := rfl
  busy := (decide_eq_true s.build.nrounds.one_le).symm
  done := (decide_eq_false (Nat.ne_of_lt s.build.nrounds.one_le)).symm
  err := rfl
  ecause := rfl
  build := rfl
  noResponse := ⟨rfl, rfl⟩

theorem sampled (h : AfterRounds s k t) : AfterRounds s k t.sampled := { h with }

theorem permRoundStep (h : AfterRounds s k t) (more : k < s.build.nrounds.val) :
    AfterRounds s (k + 1) (permRoundStep t) where
  words := by
    rw [permRoundStep_S, h.words, h.build, h.rcnt]
    rfl
  rcnt := succ_rcnt_toNat h.rcnt (more.trans_le s.build.nrounds.le_sixteen)
  busy := by
    rw [permRoundStep_busy_eq (h.busy.trans (decide_eq_true more)), h.rcnt, h.build]
    exact decide_eq_decide.2 ⟨lt_of_le_of_ne more, Nat.ne_of_lt⟩
  done := by
    rw [permRoundStep_done_eq, h.done, decide_eq_false more.ne, Bool.false_or, h.rcnt, h.build]
  err := h.err
  ecause := h.ecause
  build := h.build
  noResponse :=
    let ⟨_, hresponses⟩ := h.noResponse
    ⟨rfl, hresponses⟩

/-- The next edge without a reset runs the next round, whatever else the host drives. -/
theorem step (h : AfterRounds s k t) (more : k < s.build.nrounds.val)
    (noRst : t.nextInput.rst = false) :
    step t = .next (Machine.permRoundStep t.sampled) :=
  edge_of_busy noRst (h.busy.trans (decide_eq_true more))

end AfterRounds

theorem nextInput_of_inputs_eq_drop {t : State} {es : List EdgeInput} {k : Nat}
    (h : t.inputs = es.drop k) : t.nextInput = es[k]?.getD EdgeInput.idle := by
  rw [State.nextInput, h, List.headD_eq_head?_getD, List.head?_drop]

/-- The inputs of an edge without a reset, and those past the end of the list, leave `rst` = 0. -/
theorem nextInput_rst_eq_false {t : State} {es : List EdgeInput} {k : Nat}
    (h : t.inputs = es.drop k) (noRst : ∀ e ∈ es.take (k + 1), e.rst = false) :
    t.nextInput.rst = false := by
  rw [nextInput_of_inputs_eq_drop h]
  cases hk : es[k]? with
  | none => rfl
  | some e =>
    rw [← List.getElem?_take_of_lt (Nat.lt_succ_self k)] at hk
    exact noRst e (List.mem_of_getElem? hk)

/-- The edge that accepts a PERM, and `k` more edges without a reset. -/
theorem run_perm {s : State} {data : Word} {es : List EdgeInput} (idle : s.busy = false)
    (hinputs : s.inputs = EdgeInput.offer (mkCommand 0x3 0 data) :: es) {k : Nat}
    (hk : k ≤ s.build.nrounds.val) (noRst : ∀ e ∈ es.take k, e.rst = false) :
    ∃ t : State, run (k + 1) s = .next t ∧ AfterRounds s k t ∧ t.inputs = es.drop k := by
  induction k with
  | zero =>
    have hstep : step s = .next (startPerm { s with inputs := es }) := by
      have acc : Accepts (EdgeInput.offer (mkCommand 0x3 0 data)) { s with inputs := es } :=
        ⟨rfl, idle, rfl⟩
      rw [step_eq_edge hinputs, edge_of_accepts acc, command_offer, decode_mkCommand]
      rfl
    exact ⟨_, run_succ_of_next 0 s _ hstep, { AfterRounds.startPerm s with }, rfl⟩
  | succ k ih =>
    obtain ⟨t, hrun, hafter, hrest⟩ := ih (Nat.le_of_succ_le hk) fun e he =>
      noRst e (List.take_subset_take_left es k.le_succ he)
    have hstep := hafter.step hk (nextInput_rst_eq_false hrest noRst)
    refine ⟨_, (run_add_of_next (k + 1) 1 s t hrun).trans (run_succ_of_next 0 t _ hstep),
      hafter.sampled.permRoundStep hk, ?_⟩
    rw [permRoundStep_inputs, sampled_inputs, hrest, List.tail_drop]

/-- Settles O36: `NROUNDS` rounds make `p0`, and a reset edge in between leaves the reset state. -/
theorem permComputesP0 : Obligations.PermComputesP0 := by
  intro s data es idle hinputs
  refine ⟨fun k hk noRst => ?_, fun k hk noRst e he rst => ?_⟩
  · obtain ⟨t, hrun, h, hrest⟩ := run_perm idle hinputs hk noRst
    refine ⟨t, hrun, h.words, h.rcnt, h.busy, h.done, fun complete => ?_, h.err, h.ecause, h.build,
      hrest, h.noResponse⟩
    rw [h.words, complete]
    rfl
  · obtain ⟨t, hrun, h, hrest⟩ := run_perm idle hinputs hk.le noRst
    have hrst : t.nextInput.rst = true := by
      rw [nextInput_of_inputs_eq_drop hrest, he]
      exact rst
    have hstep : step t = .next (resetEdge t.sampled) := edge_of_rst hrst
    exact ⟨_, (run_add_of_next (k + 1) 1 s t hrun).trans (run_succ_of_next 0 t _ hstep),
      atReset_resetEdge _, h.build⟩

end Sys2Proof.Machine
end

section

/-! The collision of 42_round_driver.md R164. -/

namespace Sys2Proof.Machine

open Machine.Laws Machine.Claims

/-- Arrays that collide in round 0 collide after every positive number of rounds. -/
theorem applyRounds_congr {cfg : Config} {S T : WordArray} (h : round cfg S 0 = round cfg T 0)
    {n : Nat} (hn : 1 ≤ n) : applyRounds cfg n S = applyRounds cfg n T := by
  induction n, hn using Nat.le_induction with
  | base => exact h
  | succ n _ ih => rw [applyRounds, applyRounds, ih]

theorem p0_congr {cfg : Config} {S T : WordArray} (h : round cfg S 0 = round cfg T 0) :
    p0 cfg S = p0 cfg T :=
  applyRounds_congr h cfg.nrounds.one_le

/-- Round 0 injects its constant into word 0. -/
theorem cinj_zero (cfg : Config) (x y : Word) :
    cinj cfg #v[x, y, 0, 0, 0, 0, 0, 0] 0 = #v[x ^^^ cfg.rc[0], y, 0, 0, 0, 0, 0, 0] := rfl

/-- The sub-step of the first pair in round 0. -/
theorem arxSubStep_zero_one_allOnes (cfg : Config) :
    arxSubStep cfg 0 #v[1, 0xFFFFFFFFFFFFFFFF, 0, 0, 0, 0, 0, 0] 0 =
      #v[0xFFFFFFFFFFFFFFFF, 0, 0, 0, 0, 0, 0, 0] := by
  have pair : roundPair cfg 0 (1, 0xFFFFFFFFFFFFFFFF) = (0xFFFFFFFFFFFFFFFF, 0) :=
    arxPair_one_allOnes _ _ _ _
  calc arxSubStep cfg 0 #v[1, 0xFFFFFFFFFFFFFFFF, 0, 0, 0, 0, 0, 0] 0
    _ = #v[(roundPair cfg 0 (1, 0xFFFFFFFFFFFFFFFF)).1, (roundPair cfg 0 (1, 0xFFFFFFFFFFFFFFFF)).2,
          0, 0, 0, 0, 0, 0] := rfl
    _ = #v[0xFFFFFFFFFFFFFFFF, 0, 0, 0, 0, 0, 0, 0] := by rw [pair]

/-- A sub-step keeps a pair of zero words. -/
theorem arxSubStep_of_zero_pair {cfg : Config} {r : Fin 16} {S : WordArray} {i : Nat}
    (hA : wordAt S (pairA r i) = 0) (hB : wordAt S (pairB r i) = 0) : arxSubStep cfg r S i = S := by
  rw [arxSubStep_eq_mapPair]
  apply mapPair_eq_self
  rw [hA, hB]
  exact arxPair_zero _ _ _ _

/-- In round 0 the words 0 and 1 are a pair, and the other pairs are zero. -/
theorem arx_one_allOnes (cfg : Config) :
    arx cfg #v[1, 0xFFFFFFFFFFFFFFFF, 0, 0, 0, 0, 0, 0] 0 =
      #v[0xFFFFFFFFFFFFFFFF, 0, 0, 0, 0, 0, 0, 0] := by
  rw [arx, List.foldl_cons, arxSubStep_zero_one_allOnes]
  simp only [List.foldl_cons, List.foldl_nil]
  rw [arxSubStep_of_zero_pair (i := 1) rfl rfl, arxSubStep_of_zero_pair (i := 2) rfl rfl,
    arxSubStep_of_zero_pair (i := 3) rfl rfl]

/-- The diffusion layer takes zero words and all-ones words to zero (41_round_layers.md R130). -/
theorem mds_eq_zeroWords {S : WordArray} (h : ∀ w : Fin 8, S[w] = 0 ∨ S[w] = 0xFFFFFFFFFFFFFFFF)
    (cfg : Config) (r : Fin 16) : mds cfg S r = zeroWords := by
  have zero (w : Fin 8) : mdsWord cfg.mdsForm S[w] r = 0 := by
    obtain hw | hw := h w <;> rw [hw]
    · exact mdsWord_zero _ r
    · exact mdsWord_allOnes _ r
  rw [mds, funext zero]
  rfl

/-- Settles O39: after the MDS layer of round 0 both arrays are zero. -/
theorem p0CollidesForEveryBuild : Obligations.P0CollidesForEveryBuild := by
  intro cfg A B
  have cinjA : cinj cfg A 0 = zeroWords := by
    rw [cinj_zero, BitVec.xor_self]
    rfl
  have cinjB : cinj cfg B 0 = #v[1, 0xFFFFFFFFFFFFFFFF, 0, 0, 0, 0, 0, 0] := by
    rw [cinj_zero, BitVec.xor_comm, ← BitVec.xor_assoc, BitVec.xor_self, BitVec.zero_xor]
  have arxA : arx cfg (cinj cfg A 0) 0 = zeroWords := by rw [cinjA, arx_zeroWords]
  have arxB : arx cfg (cinj cfg B 0) 0 = #v[0xFFFFFFFFFFFFFFFF, 0, 0, 0, 0, 0, 0, 0] := by
    rw [cinjB, arx_one_allOnes]
  have mdsA : mds cfg (arx cfg (cinj cfg A 0) 0) 0 = zeroWords := by
    rw [arxA]
    exact mds_eq_zeroWords (by decide) cfg 0
  have mdsB : mds cfg (arx cfg (cinj cfg B 0) 0) 0 = zeroWords := by
    rw [arxB]
    exact mds_eq_zeroWords (by decide) cfg 0
  have differ : A ≠ B := fun h => by
    have word1 : (0 : Word) = 0xFFFFFFFFFFFFFFFF := congrArg (fun S : WordArray => S[1]) h
    exact absurd word1 (by decide)
  have collide : p0 cfg A = p0 cfg B := p0_congr (by rw [round, round, mdsA, mdsB])
  exact ⟨differ, collide, fun injective => differ (injective collide), cinjA, cinjB, arxA, arxB,
    mdsA, mdsB⟩

end Sys2Proof.Machine
end

section

/-! Data independence (42_round_driver.md R162, 70_reset_and_hazards.md R281): one lemma for each
operation on the state. -/

namespace Sys2Proof.Machine

open Machine.Laws Machine.Claims

namespace Claims.DifferOnlyInData

variable {s u : State}

theorem sampled (h : DifferOnlyInData s u) : DifferOnlyInData s.sampled u.sampled := by
  obtain ⟨hdone, hcontrol, ⟨hbuild, hinputs⟩, hvalid, hlength, hfree⟩ := h
  exact ⟨hdone, hcontrol, ⟨hbuild, congrArg List.tail hinputs⟩, hvalid, hlength, hfree⟩

theorem noResponse (h : DifferOnlyInData s u) : DifferOnlyInData s.noResponse u.noResponse := by
  obtain ⟨hdone, hcontrol, hsurroundings, -, hlength, hfree⟩ := h
  exact ⟨hdone, hcontrol, hsurroundings, rfl, hlength, congrArg (· + 1) hfree⟩

theorem respond (h : DifferOnlyInData s u) (v w : Word) :
    DifferOnlyInData (s.respond v) (u.respond w) := by
  obtain ⟨hdone, hcontrol, hsurroundings, -, hlength, hfree⟩ := h
  refine ⟨hdone, hcontrol, hsurroundings, rfl, ?_, hfree⟩
  simp [hlength]

theorem setWords_changed (h : DifferOnlyInData s u) (v w : WordArray) :
    DifferOnlyInData (s.setWords v).changed (u.setWords w).changed := by
  obtain ⟨-, hcontrol, hsurroundings, hvalid, hlength, hfree⟩ := h.noResponse
  exact ⟨rfl, hcontrol, hsurroundings, hvalid, hlength, hfree⟩

theorem raiseError (h : DifferOnlyInData s u) (e : InterfaceError) :
    DifferOnlyInData (raiseError e s) (raiseError e u) := by
  obtain ⟨hdone, ⟨hbusy, herr, hecause, hrcnt⟩, hsurroundings, hvalid, hlength, hfree⟩ :=
    h.noResponse
  refine ⟨hdone, ⟨hbusy, rfl, ?_, hrcnt⟩, hsurroundings, hvalid, hlength, hfree⟩
  rw [raiseError_ecause, raiseError_ecause]
  exact if_congr (Bool.eq_iff_iff.1 herr) hecause rfl

theorem clearError (h : DifferOnlyInData s u) :
    DifferOnlyInData (clearError s) (clearError u) := by
  obtain ⟨hdone, ⟨hbusy, -, -, hrcnt⟩, hsurroundings, hvalid, hlength, hfree⟩ := h.noResponse
  exact ⟨hdone, ⟨hbusy, rfl, rfl, hrcnt⟩, hsurroundings, hvalid, hlength, hfree⟩

theorem startPerm (h : DifferOnlyInData s u) : DifferOnlyInData (startPerm s) (startPerm u) := by
  obtain ⟨-, ⟨-, herr, hecause, -⟩, hsurroundings, hvalid, hlength, hfree⟩ := h.noResponse
  exact ⟨rfl, ⟨rfl, herr, hecause, rfl⟩, hsurroundings, hvalid, hlength, hfree⟩

theorem resetEdge (h : DifferOnlyInData s u) : DifferOnlyInData (resetEdge s) (resetEdge u) := by
  obtain ⟨-, -, hsurroundings, -, hlength, hfree⟩ := h
  exact ⟨rfl, ⟨rfl, rfl, rfl, rfl⟩, hsurroundings, rfl, hlength, hfree⟩

theorem lastRound (h : DifferOnlyInData s u) : u.lastRound = s.lastRound := by
  obtain ⟨-, ⟨-, -, -, hrcnt⟩, ⟨hbuild, -⟩, -⟩ := h
  rw [State.lastRound, State.lastRound, hrcnt, hbuild]

/-- When a PERM ends depends on `RCNT` and the build alone. -/
theorem permRoundStep (h : DifferOnlyInData s u) :
    DifferOnlyInData (permRoundStep s) (permRoundStep u) := by
  have hlast := h.lastRound
  obtain ⟨hdone, ⟨hbusy, herr, hecause, hrcnt⟩, hsurroundings, hvalid, hlength, hfree⟩ :=
    h.noResponse
  refine ⟨?_, ⟨?_, herr, hecause, congrArg (· + 1) hrcnt⟩, hsurroundings, hvalid, hlength, hfree⟩
  · rw [permRoundStep_done, permRoundStep_done, hlast]
    exact congrArg _ hdone
  · rw [permRoundStep_busy, permRoundStep_busy, hlast]
    exact congrArg _ hbusy

theorem classZ (h : DifferOnlyInData s u) (idx : BitVec 4) {t v : State}
    (legal : DifferOnlyInData t v) : DifferOnlyInData (classZ idx s t) (classZ idx u v) := by
  by_cases hidx : idx = 0#4
  · simpa only [Machine.classZ, if_pos hidx] using legal
  · rw [classZ_of_ne_zero hidx, classZ_of_ne_zero hidx]
    exact h.raiseError _

theorem classW (h : DifferOnlyInData s u) (idx : BitVec 4) {f g : Fin 8 → State}
    (legal : ∀ w, DifferOnlyInData (f w) (g w)) :
    DifferOnlyInData (classW idx s f) (classW idx u g) := by
  cases hidx : idx[3] with
  | false =>
    rw [classW_of_legal hidx, classW_of_legal hidx]
    exact legal _
  | true =>
    rw [classW_of_illegal hidx, classW_of_illegal hidx]
    exact h.raiseError _

/-- A command reads the state array and the ROMs only to write the array or to respond. -/
theorem exec (h : DifferOnlyInData s u) (i : Instr) :
    ∃ t v, exec i s = .next t ∧ exec i u = .next v ∧ DifferOnlyInData t v := by
  cases i with
  | nop idx => exact ⟨_, _, rfl, rfl, h.classZ idx h.noResponse⟩
  | perm idx => exact ⟨_, _, rfl, rfl, h.classZ idx h.startPerm⟩
  | clrerr idx => exact ⟨_, _, rfl, rfl, h.classZ idx h.clearError⟩
  | rdstat idx => exact ⟨_, _, rfl, rfl, h.classZ idx (h.respond _ _)⟩
  | ldw idx | rotw idx => exact ⟨_, _, rfl, rfl, h.classW idx fun _ => h.setWords_changed _ _⟩
  | rdw idx => exact ⟨_, _, rfl, rfl, h.classW idx fun _ => h.respond _ _⟩
  | rdrc | rdrot => exact ⟨_, _, rfl, rfl, h.respond _ _⟩
  | rnd | cinj | arx | mds | gmix => exact ⟨_, _, rfl, rfl, h.setWords_changed _ _⟩
  | reservedE | reservedF => exact ⟨_, _, rfl, rfl, h.raiseError _⟩

/-- Both states see the same kind of edge, which `rst`, `cmd_valid` and `BUSY` decide. -/
theorem edge (h : DifferOnlyInData s u) (e : EdgeInput) :
    ∃ t v, edge e s = .next t ∧ edge e u = .next v ∧ DifferOnlyInData t v := by
  have ⟨_, ⟨hbusy, _⟩, _⟩ := h
  obtain ⟨rst, heq⟩ | ⟨noRst, busy, heq⟩ | ⟨noRst, idle, valid, heq⟩ | ⟨noRst, idle, noCmd, heq⟩ :=
    edge_cases e s
  · exact ⟨_, _, heq, edge_of_rst rst, h.resetEdge⟩
  · exact ⟨_, _, heq, edge_of_busy noRst (hbusy.trans busy), h.permRoundStep⟩
  · rw [heq, edge_of_accepts ⟨noRst, hbusy.trans idle, valid⟩]
    exact h.exec _
  · exact ⟨_, _, heq, edge_of_no_command noRst (hbusy.trans idle) noCmd, h.noResponse⟩

theorem step (h : DifferOnlyInData s u) :
    ∃ t v, step s = .next t ∧ step u = .next v ∧ DifferOnlyInData t v := by
  have ⟨_, _, ⟨_, hinputs⟩, _⟩ := h
  have same : u.nextInput = s.nextInput := congrArg (·.headD EdgeInput.idle) hinputs
  rw [Machine.step, Machine.step, same]
  exact h.sampled.edge _

theorem run (h : DifferOnlyInData s u) (k : Nat) :
    ∃ t v, run k s = .next t ∧ run k u = .next v ∧ DifferOnlyInData t v := by
  induction k generalizing s u with
  | zero => exact ⟨s, u, rfl, rfl, h⟩
  | succ k ih =>
    obtain ⟨s', u', hs, hu, h'⟩ := h.step
    rw [run_succ_of_next k s s' hs, run_succ_of_next k u u' hu]
    exact ih h'

theorem status (h : DifferOnlyInData s u) : u.status = s.status := by
  obtain ⟨hdone, ⟨hbusy, herr, hecause, hrcnt⟩, ⟨hbuild, -⟩, -⟩ := h
  rw [State.status, State.status, hdone, hbusy, herr, hecause, hrcnt, hbuild]

theorem cmdReady (h : DifferOnlyInData s u) : u.cmdReady = s.cmdReady := by
  obtain ⟨-, ⟨hbusy, -⟩, -⟩ := h
  rw [State.cmdReady, State.cmdReady, hbusy]

end Claims.DifferOnlyInData

/-- Settles O53: edges and runs keep the relation, and `STATUS` and `cmd_ready` show no data. -/
theorem controlDoesNotDependOnData : Obligations.ControlDoesNotDependOnData := by
  refine ⟨fun s u h => ?_, fun k s u h => ?_⟩
  · obtain ⟨t, v, ht, hv, h'⟩ := h.step
    exact ⟨t, v, ht, hv, h', h'.status, h'.cmdReady⟩
  · obtain ⟨t, v, ht, hv, h'⟩ := h.run k
    exact ⟨t, v, ht, hv, h', h'.status, h'.cmdReady⟩

end Sys2Proof.Machine
end

section

/-! The host transfer and control commands (43_host_transfer.md). -/

namespace Sys2Proof.Machine

open Machine.Laws Machine.Claims

/-! ## What the transfer commands share -/

/-- A response leaves every register but those of the response. -/
theorem onlyResponds_respond (s : State) (v : Word) : OnlyResponds s (s.respond v) v :=
  ⟨rfl, rfl, ⟨rfl, rfl, rfl, rfl⟩, ⟨rfl, rfl⟩, rfl, rfl, rfl⟩

theorem onlyRaises_classZ {idx : BitVec 4} (illegal : idx ≠ 0#4) (s effect : State) :
    OnlyRaises 2 s (classZ idx s effect) := by
  rw [classZ_of_ne_zero illegal]
  exact onlyRaises_raiseError .badIndex s

theorem onlyRaises_classW {idx : BitVec 4} (illegal : idx[3] = true) (s : State)
    (f : Fin 8 → State) : OnlyRaises 2 s (classW idx s f) := by
  rw [classW_of_illegal illegal]
  exact onlyRaises_raiseError .badIndex s

/-- While a PERM runs an offered command is not accepted: the edge runs a round (R53). -/
theorem step_offer_of_busy {s : State} (busy : s.busy = true) (c : Command)
    (es : List EdgeInput) :
    step { s with inputs := EdgeInput.offer c :: es } =
      .next (permRoundStep { s with inputs := es }) :=
  (step_eq_edge rfl).trans (edge_of_busy rfl busy)

theorem edge_offer_of_idle {s : State} (idle : s.busy = false) (c : Command) :
    edge (EdgeInput.offer c) s = exec (decode c) s := by
  rw [edge_of_accepts ⟨rfl, idle, rfl⟩, command_offer]

/-! ## NOP and CLRERR (R190, R196) -/

theorem exec_nop_zero (s : State) : exec (.nop 0) s = .next (idleEdge s) := rfl

theorem exec_clrerr_zero (s : State) : exec (.clrerr 0) s = .next (clearError s) := rfl

/-- An offered NOP makes the edge that no offer makes: a round step while a PERM runs, and an idle
edge otherwise. -/
theorem edge_offer_nop_eq {e : EdgeInput} (noRst : e.rst = false) (noCmd : e.cmdValid = false)
    (data : Word) (s : State) :
    edge (EdgeInput.offer (mkCommand 0x0 0 data)) s = edge e s := by
  cases busy : s.busy with
  | true => rw [edge_of_busy rfl busy, edge_of_busy noRst busy]
  | false =>
    have isNop : decode (mkCommand 0x0 0 data) = .nop 0 := decode_mkCommand 0x0 0 data
    rw [edge_offer_of_idle busy, isNop, exec_nop_zero, edge_of_no_command noRst busy noCmd]

/-- Settles O9: a legal NOP does what an idle edge does, and the two edges are the same. -/
theorem nopOnlyEndsTheResponse : Obligations.NopOnlyEndsTheResponse := by
  intro s idx data es
  refine ⟨decode_mkCommand 0x0 idx data, fun legal => ?_,
    fun illegal => ⟨_, rfl, onlyRaises_classZ illegal s _⟩, fun e noRst noCmd => ?_⟩
  · subst legal
    exact ⟨_, exec_nop_zero s, rfl, rfl, ⟨rfl, rfl, rfl, rfl⟩, ⟨rfl, rfl⟩, rfl, rfl⟩
  · obtain ⟨t, ht, -⟩ := edge_effect e { s with inputs := es }
    have same := edge_offer_nop_eq noRst noCmd data { s with inputs := es }
    exact ⟨t, t, (step_eq_edge rfl).trans (same.trans ht), (step_eq_edge rfl).trans ht,
      sameButUnspecified_refl t⟩

/-- Settles O15: a legal CLRERR clears the error registers, or BAD_INDEX is raised instead. -/
theorem clrerrClearsTheError : Obligations.ClrerrClearsTheError := by
  intro s idx data
  refine ⟨decode_mkCommand 0xD idx data, fun legal => ?_,
    fun illegal => ⟨_, rfl, onlyRaises_classZ illegal s _⟩⟩
  subst legal
  exact ⟨_, exec_clrerr_zero s, rfl, rfl, rfl, rfl, rfl, rfl, ⟨rfl, rfl⟩, rfl, rfl⟩

/-! ## LDW and RDW (R191, R192) -/

theorem exec_ldw_of_legal {idx : BitVec 4} (legal : idx[3] = false) (data : Word) (s : State) :
    exec (.ldw idx data) s = .next (s.setWord (wordIndex idx) data).changed :=
  congrArg _ (classW_of_legal legal s _)

theorem exec_rdw_of_legal {idx : BitVec 4} (legal : idx[3] = false) (s : State) :
    exec (.rdw idx) s = .next (s.respond (s.word (wordIndex idx))) :=
  congrArg _ (classW_of_legal legal s _)

theorem exec_rdw_of_eq_toNat {idx : BitVec 4} {w : Fin 8} (h : w.val = idx.toNat) (s : State) :
    exec (.rdw idx) s = .next (s.respond (s.word w)) :=
  congrArg _ (classW_of_eq_toNat h s _)

/-- Settles O10: LDW writes the word it names, or raises BAD_INDEX. -/
theorem ldwLoadsTheNamedWord : Obligations.LdwLoadsTheNamedWord := by
  intro s idx data
  refine ⟨decode_mkCommand 0x1 idx data, fun legal => ⟨_, rfl, ?_, ?_⟩,
    fun illegal => ⟨_, rfl, onlyRaises_classW illegal s _⟩⟩
  · exact word_classW_setWord_eq_ite idx s fun _ => data
  · rw [classW_of_legal legal]
    exact onlyWordsChanged_setWords_changed s _

/-- Settles O11: RDW responds the word it names, which an LDW has just written, or raises BAD_INDEX;
while a PERM runs the edge is a round step, which shows no response. -/
theorem rdwRespondsTheNamedWord : Obligations.RdwRespondsTheNamedWord := by
  intro s idx data
  refine ⟨decode_mkCommand 0x2 idx data, fun w named => ?_,
    fun illegal => ⟨_, rfl, onlyRaises_classW illegal s _⟩, fun v legal => ?_,
    fun es busy => ⟨_, step_offer_of_busy busy _ es, rfl, rfl⟩⟩
  · exact ⟨_, exec_rdw_of_eq_toNat named s, onlyResponds_respond s _⟩
  · exact ⟨_, _, exec_ldw_of_legal legal v s, exec_rdw_of_legal legal _, rfl,
      word_setWord_same s (wordIndex idx) v⟩

/-! ## RDRC and RDROT (R193, R194) -/

/-- Settles O12: all sixteen round indices are legal, and RDRC reads the ROM at its own. -/
theorem rdrcRespondsTheRoundConstant : Obligations.RdrcRespondsTheRoundConstant :=
  fun s r data => ⟨decode_mkCommand 0xA r data, _, rfl, onlyResponds_respond s _⟩

/-- The fields of the packed amounts, the lowest first. -/
theorem getLsbD_packRot (cfg : Config) (r : Fin 16) (k : Nat) :
    (packRot cfg r).getLsbD k =
      if k < 6 then (BitVec.ofNat 6 cfg.rot1[r].val).getLsbD k
      else if k < 12 then (BitVec.ofNat 6 cfg.rot2[r].val).getLsbD (k - 6)
      else if k < 18 then (BitVec.ofNat 6 cfg.rot3[r].val).getLsbD (k - 12)
      else (BitVec.ofNat 6 cfg.rot4[r].val).getLsbD (k - 18) := by
  unfold packRot
  grind

/-- A field of six bits that holds a rotation amount holds all of it. -/
theorem toNat_field_of_getLsbD_eq {v : Word} {start : Nat} {n : Fin 64}
    (h : ∀ k < 6, v.getLsbD (start + k) = (BitVec.ofNat 6 n.val).getLsbD k) :
    (v.extractLsb' start 6).toNat = n.val := by
  have field : v.extractLsb' start 6 = BitVec.ofNat 6 n.val := by
    apply BitVec.eq_of_getLsbD_eq
    intro k hk
    rw [BitVec.getLsbD_extractLsb', h k hk, decide_eq_true hk, Bool.true_and]
  rw [field, BitVec.toNat_ofNat, Nat.mod_eq_of_lt n.isLt]

theorem packRot_rot1 (cfg : Config) (r : Fin 16) :
    ((packRot cfg r).extractLsb' 0 6).toNat = cfg.rot1[r].val :=
  toNat_field_of_getLsbD_eq fun k hk => by grind [getLsbD_packRot]

theorem packRot_rot2 (cfg : Config) (r : Fin 16) :
    ((packRot cfg r).extractLsb' 6 6).toNat = cfg.rot2[r].val :=
  toNat_field_of_getLsbD_eq fun k hk => by grind [getLsbD_packRot]

theorem packRot_rot3 (cfg : Config) (r : Fin 16) :
    ((packRot cfg r).extractLsb' 12 6).toNat = cfg.rot3[r].val :=
  toNat_field_of_getLsbD_eq fun k hk => by grind [getLsbD_packRot]

theorem packRot_rot4 (cfg : Config) (r : Fin 16) :
    ((packRot cfg r).extractLsb' 18 6).toNat = cfg.rot4[r].val :=
  toNat_field_of_getLsbD_eq fun k hk => by grind [getLsbD_packRot]

theorem packRot_reserved_24 (cfg : Config) (r : Fin 16) :
    (packRot cfg r).extractLsb' 24 40 = 0 := by
  ext k hk
  grind [getLsbD_packRot]

/-- Settles O13, field by field. -/
theorem rdrotPacksFourAmounts : Obligations.RdrotPacksFourAmounts := fun s r data =>
  ⟨decode_mkCommand 0xB r data, _, packRot s.build (roundIndex r), rfl, onlyResponds_respond s _,
    packRot_rot1 _ _, packRot_rot2 _ _, packRot_rot3 _ _, packRot_rot4 _ _,
    packRot_reserved_24 _ _⟩

/-! ## RDSTAT (R195) -/

/-- Bit 0 of `STATUS` is `BUSY`. -/
theorem getLsbD_status_zero (s : State) : s.status.getLsbD 0 = s.busy := getLsbD_status s 0

/-- In IDLE the status that RDSTAT responds has `BUSY` = 0, and BAD_INDEX shows no response. -/
theorem rspData_classZ_status {s : State} (idle : s.busy = false) (idx : BitVec 4)
    (responds : (classZ idx s (s.respond s.status)).rspValid = true) :
    (classZ idx s (s.respond s.status)).rspData.getLsbD 0 = false := by
  obtain ⟨-, heq⟩ | ⟨-, heq⟩ := classZ_cases idx s (s.respond s.status)
  · rw [heq, respond_rspData, getLsbD_status_zero, idle]
  · rw [heq, raiseError_rspValid] at responds
    cases responds

/-- No edge that an RDSTAT is offered at responds `BUSY` = 1: while a PERM runs it is a round step,
which shows no response. -/
theorem edge_offer_rdstat_never_shows_busy (s : State) (idx : BitVec 4) (data : Word) :
    ∃ t, edge (EdgeInput.offer (mkCommand 0xC idx data)) s = .next t ∧
      (t.rspValid = true → t.rspData.getLsbD 0 = false) := by
  cases busy : s.busy with
  | true => exact ⟨permRoundStep s, edge_of_busy rfl busy, nofun⟩
  | false =>
    have isRdstat : decode (mkCommand 0xC idx data) = .rdstat idx := decode_mkCommand 0xC idx data
    rw [edge_offer_of_idle busy, isRdstat]
    exact ⟨_, rfl, rspData_classZ_status busy idx⟩

/-- Settles O14: RDSTAT reads `STATUS` of the state it is accepted in, where `BUSY` = 0, or raises
BAD_INDEX. -/
theorem rdstatRespondsTheOldStatus : Obligations.RdstatRespondsTheOldStatus := by
  intro s idx data
  refine ⟨decode_mkCommand 0xC idx data, fun legal => ?_,
    fun illegal => ⟨_, rfl, onlyRaises_classZ illegal s _⟩, fun es => ?_⟩
  · subst legal
    exact ⟨_, exec_rdstat_zero s, onlyResponds_respond s _⟩
  · rw [step_eq_edge rfl]
    exact edge_offer_rdstat_never_shows_busy _ idx data

end Sys2Proof.Machine
end

section

/-! The exceptions of 60_exceptions.md: none stops the core (R230, R237). -/

namespace Sys2Proof.Machine

/-- Settles O52: a run is safe when it answers a next state, and `run_answers`, by induction on the
number of edges from `edge_effect`, gives one from every state. -/
theorem noRunEverStops : Obligations.NoRunEverStops := run_answers

end Sys2Proof.Machine
end

section

/-! Reset of 70_reset_and_hazards.md (R270, R272). -/

namespace Sys2Proof.Machine

open Machine.Laws Machine.Claims

/-- A step that samples `rst` = 1 is the reset edge, with no hypothesis on `BUSY` or on the offer. -/
theorem step_of_rst {s : State} {e : EdgeInput} {es : List EdgeInput} (hinputs : s.inputs = e :: es)
    (rst : e.rst = true) : step s = .next (resetEdge { s with inputs := es }) :=
  (step_eq_edge hinputs).trans (edge_of_rst rst)

@[simp] theorem resetEdge_cmdReady (s : State) : (resetEdge s).cmdReady = true := rfl

/-- Settles O43: `edge` tests `rst` first, and the reset edge loads every reset value. -/
theorem resetEdgeLoadsResetValues : Obligations.ResetEdgeLoadsResetValues :=
  fun s _ es hinputs rst => ⟨_, step_of_rst hinputs rst, atReset_resetEdge _, resetEdge_cmdReady _,
    resetEdge_build { s with inputs := es }, resetEdge_inputs { s with inputs := es }⟩

end Sys2Proof.Machine
end
